-- ==== Sys2Proof/Word.lean ====
section
/-! DEFINITION. The numbered things of the park and the widths the spec counts in (00_scope.md, Naming conventions and Units). -/

namespace Sys2Proof

/-- One byte of a frame. -/
abbrev Byte := BitVec 8

/-- Outlets O0 to O15. -/
abbrev Outlet := Fin 16

/-- Modules M0 to M31. -/
abbrev ModuleNo := Fin 32

/-- A set of outlets, bit i for Oi (R168: a set of outlets is a 16-bit mask). -/
abbrev OutletSet := BitVec 16

/-- A set of modules, bit i for Mi (R168). -/
abbrev ModuleSet := BitVec 32

/-- The outlets in ascending number. -/
def allOutlets : List Outlet := [0, 1, 2, 3, 4, 5, 6, 7, 8, 9, 10, 11, 12, 13, 14, 15]

/-- The modules in ascending number. -/
def allModules : List ModuleNo :=
  [0, 1, 2, 3, 4, 5, 6, 7, 8, 9, 10, 11, 12, 13, 14, 15,
   16, 17, 18, 19, 20, 21, 22, 23, 24, 25, 26, 27, 28, 29, 30, 31]

/-- The largest value of a 32-bit count, where the saturating counters stop (R73, R101, R153, R167). -/
def max32 : Nat := 4294967295

/-- The largest value of a 48-bit time (R19, R20). -/
def max48 : Nat := 281474976710655

/-- A 32-bit counter raised by `n`, saturating (00_scope.md, Arithmetic and notation). -/
def satAdd (c n : Nat) : Nat := min (c + n) max32

end Sys2Proof
end

