-- ==== Sys2Proof/Syntax.lean ====
section
/-! DEFINITION. The commands: one constructor per row of spec/opcode_table.json, with the row's operands. -/

namespace Sys2Proof

/-- The two request ports (R165). -/
inductive PortId where
  | settlement
  | site
deriving DecidableEq, Repr

/-- A complete frame after its start byte (R165, R172): the length byte L and what follows it, the code, the payload
and the two check bytes. -/
structure RawFrame where
  length : Byte
  rest : List Byte
deriving DecidableEq, Repr

/-- What ends a frame on the pedestal line, other than a rejected character (R99); or that it goes on (log 10). -/
inductive FrameEnd where
  /-- The gap time-out: 0.5 ms with no further character. -/
  | gap
  /-- An address character, which begins the next frame with this address (R98). -/
  | address (a : Byte)
  /-- Nothing yet: an address character has begun the frame on an idle line (R98), and it is still being assembled. -/
  | notYet
deriving DecidableEq, Repr

/-- The commands. Operands that come from a request's payload have the payload's widths (R169, R170); operands of an
event name the outlet, the module or the frame the event is about. -/
inductive Instr where
  /-- READ_STATUS, R23. -/
  | readStatus (port : PortId)
  /-- SWAP_NOTICES, R163. -/
  | swapNotices (port : PortId)
  /-- ARM, R41. -/
  | arm (outlet : Byte) (hold : BitVec 32) (plan cls : Byte) (paymentRef : Vector Byte 12)
  /-- TOPUP, R53. -/
  | topup (session amount : BitVec 32)
  /-- STOP, R55. -/
  | stop (session : BitVec 32)
  /-- QUERY_SESSION, R56. -/
  | querySession (outlet : Byte)
  /-- PEEK_CLOSURE, R158. -/
  | peekClosure
  /-- RELEASE_CLOSURE, R159. -/
  | releaseClosure (session : BitVec 32)
  /-- WRITE_PLAN, R34; `bands` is the payload after the band count, whatever its length. -/
  | writePlan (plan : Byte) (sessionFee idleFee : BitVec 32) (grace bandCount : Byte) (bands : List Byte)
  /-- READ_PLAN, R36. -/
  | readPlan (plan : Byte)
  /-- INVALIDATE_PLAN, R35. -/
  | invalidatePlan (plan : Byte)
  /-- SET_CAP, R116. -/
  | setCap (cap validity : BitVec 16)
  /-- TIME_REF, R24. -/
  | timeRef (ref : BitVec 48)
  /-- CONFIG_WRITE, R5. -/
  | configWrite (item index : Byte) (value : BitVec 32)
  /-- CONFIG_READ, R7. -/
  | configRead (item index : Byte)
  /-- START_PARK, R8. -/
  | startPark
  /-- STOP_PARK, R14. -/
  | stopPark
  /-- MODULE_SERVICE_OUT, R148: MODULE_SERVICE with any direction byte but 1 (0 is out, any other is refused). -/
  | moduleServiceOut (module direction : Byte)
  /-- MODULE_SERVICE_IN, R149: MODULE_SERVICE with direction byte 1. -/
  | moduleServiceIn (module : Byte)
  /-- MODULE_CLEAR, R150. -/
  | moduleClear (module : Byte)
  /-- READ_SITE, R134. -/
  | readSite
  /-- READ_OUTLET, R133. -/
  | readOutlet (outlet : Byte)
  /-- READ_COUNTERS, R171: with any clear option but 1 (0 keeps the counters, any other is refused). -/
  | readCounters (clear part : Byte)
  /-- READ_COUNTERS_CLEAR, R171: READ_COUNTERS with clear option 1. -/
  | readCountersClear (part : Byte)
  /-- BAD_FRAME, R166. -/
  | badFrame (port : PortId) (frame : RawFrame)
  /-- UNKNOWN_REQUEST, R166. -/
  | unknownRequest (port : PortId) (frame : RawFrame)
  /-- RESPONSE_OVERRUN, R167. -/
  | responseOverrun (port : PortId)
  /-- REQUEST_GAP_TIMEOUT, R165: the bytes received, start byte first, before the gap. -/
  | requestGapTimeout (port : PortId) (received : List Byte)
  /-- RESPONSE_SENT, R167. -/
  | responseSent (port : PortId)
  /-- CONFIRM, R138: the route is an outlet, or none (0xFF on the link). -/
  | confirm (module : ModuleNo) (route : Option Outlet)
  /-- FAULT_ON, R146. -/
  | faultOn (module : ModuleNo)
  /-- FAULT_OFF, R147. -/
  | faultOff (module : ModuleNo)
  /-- CABINET_FRAME_ERROR, R152. -/
  | cabinetFrameError (frame : RawFrame)
  /-- UNUSABLE_MESSAGE, R152. -/
  | unusableMessage (frame : RawFrame)
  /-- CABINET_GAP_TIMEOUT, R152: the bytes received, start byte first, before the gap. -/
  | cabinetGapTimeout (received : List Byte)
  /-- CABINET_MESSAGE_SENT, R151. -/
  | cabinetMessageSent
  /-- REPORT_FRAME, R100: the 14 data characters after the address character (R176), their mark bits clear (a set one would
  make an address character, R98), and what ended the frame. -/
  | reportFrame (outlet : Outlet) (body : Vector Byte 14) (ended : FrameEnd)
  /-- GAP_TIME_OUT, R99: a frame of `chars` characters, its address character included, ended by the gap. -/
  | gapTimeOut (outlet : Outlet) (chars : Nat)
  /-- REJECTED_CHARACTER, R97: by a framing fault (alone or with noise), or by noise alone. -/
  | rejectedCharacter (framing : Bool)
  /-- UNADDRESSED_FRAME, R98: a frame whose address is not 0 to 15. -/
  | unaddressedFrame (addr : Byte) (ended : FrameEnd)
  /-- UNADDRESSED_CHARACTER, R98. -/
  | unaddressedCharacter
  /-- OPENING_BEGIN, R111. -/
  | openingBegin
  /-- OPENING_END, R114. -/
  | openingEnd
  /-- REPLY_WINDOW_CLOSE, R109. -/
  | replyWindowClose
  /-- CYCLE_EXPIRY, R119: `wireQuiet` is the wire's part of R109 at the hand-over (no character being received, 0.5 ms
  since the last one, the line high). -/
  | cycleExpiry (wireQuiet : Bool)
  /-- PULSE_TAKEN, R66. -/
  | pulseTaken (outlet : Outlet)
  /-- RUNT, R67. -/
  | runt (outlet : Outlet)
  /-- ARM_DEADLINE, R49. -/
  | armDeadline (outlet : Outlet)
  /-- SUSPEND_DEADLINE, R52. -/
  | suspendDeadline (outlet : Outlet)
  /-- SETTLE_DEADLINE, R61. -/
  | settleDeadline (outlet : Outlet)
  /-- IDLE_MINUTE_ACCRUAL, R83. -/
  | idleMinuteAccrual (outlet : Outlet)
  /-- TRIM_ADJUSTMENT, R21. -/
  | trimAdjustment
  /-- HOLDOVER_DEADLINE, R28. -/
  | holdoverDeadline
  /-- TARGET_EXPIRY, R117. -/
  | targetExpiry
  /-- SWITCH_TIMEOUT, R139. -/
  | switchTimeout (module : ModuleNo)
  /-- WARM_UP_DEADLINE, R140. -/
  | warmUpDeadline (module : ModuleNo)
  /-- DRAIN_DEADLINE, R143. -/
  | drainDeadline (module : ModuleNo)
  /-- OPENING_TIMEOUT, R144. -/
  | openingTimeout (module : ModuleNo)
  /-- RESET, R18. -/
  | reset
  /-- PULSE_LEADING_EDGE, R65. -/
  | pulseLeadingEdge (outlet : Outlet)
  /-- PULSE_INPUT_HIGH, R68. -/
  | pulseInputHigh (outlet : Outlet)
  /-- ELAPSED_MILLISECOND, R20. -/
  | elapsedMillisecond
  /-- REPORT_DISCARD, R99: a frame of `chars` characters, its address character included; one that has not ended has `chars`
  characters so far, and nothing is discarded yet (log 10). -/
  | reportDiscard (outlet : Outlet) (chars : Nat) (ended : FrameEnd)
  /-- LINE_SEEN_HIGH, R97. -/
  | lineSeenHigh
  /-- RESET_RELEASE, R18. -/
  | resetRelease
deriving DecidableEq, Repr

end Sys2Proof
end

