-- ==== Sys2Proof/WellFormed.lean ====
section
/-! DEFINITION. Which command terms a row of the table can stand for. The meanings are total and do not rest on it;
what an ill-formed term does is in assumption log 2. -/

namespace Sys2Proof

/-- R165: a complete frame has, after L, the code, the payload and two check bytes: L + 2 bytes. -/
def RawFrame.complete (f : RawFrame) : Bool := f.rest.length == f.length.toNat + 2

/-- R165: the bytes of a frame cut off in LENGTH or BODY, its start byte 0xA5 first. -/
def isPartialFrame : List Byte → Bool
  | [] => false
  | start :: more =>
    start == 0xA5#8 &&
      match more with
      | [] => true
      | len :: body => decide (body.length < len.toNat + 2)

/-- The check of one command. Each clause is a shape the row's own rule demands. -/
def Instr.wellFormed : Instr → Bool
  | .writePlan _ _ _ _ _ bands => decide (bands.length ≤ 184)          -- R166: L is at most 196
  | .moduleServiceOut _ direction => direction != 1#8                  -- R149 has direction 1
  | .readCounters clear _ => clear != 1#8                              -- READ_COUNTERS_CLEAR has option 1
  | .badFrame _ frame => frame.complete
  | .unknownRequest _ frame => frame.complete
  | .requestGapTimeout _ received => isPartialFrame received
  | .cabinetFrameError frame => frame.complete
  | .unusableMessage frame => frame.complete
  | .cabinetGapTimeout received => isPartialFrame received
  | .gapTimeOut _ chars => decide (1 ≤ chars ∧ chars ≤ 14)             -- R99
  | .reportDiscard _ chars ended =>                                    -- R99
    match ended with
    | .gap => decide (16 ≤ chars)
    | .address _ => decide ((1 ≤ chars ∧ chars ≤ 14) ∨ 16 ≤ chars)
    | .notYet => decide (1 ≤ chars)
  | .unaddressedFrame addr _ => decide (16 ≤ addr.toNat)               -- R98
  | .readStatus _ | .swapNotices _ | .arm _ _ _ _ _ | .topup _ _ | .stop _ | .querySession _ | .peekClosure
  | .releaseClosure _ | .readPlan _ | .invalidatePlan _ | .setCap _ _ | .timeRef _ | .configWrite _ _ _
  | .configRead _ _ | .startPark | .stopPark | .moduleServiceIn _ | .moduleClear _ | .readSite | .readOutlet _
  | .readCountersClear _ | .responseOverrun _ | .responseSent _ | .confirm _ _ | .faultOn _ | .faultOff _
  | .cabinetMessageSent | .reportFrame _ _ _ | .rejectedCharacter _ | .unaddressedCharacter | .openingBegin
  | .openingEnd | .replyWindowClose | .cycleExpiry _ | .pulseTaken _ | .runt _ | .armDeadline _
  | .suspendDeadline _ | .settleDeadline _ | .idleMinuteAccrual _ | .trimAdjustment | .holdoverDeadline
  | .targetExpiry | .switchTimeout _ | .warmUpDeadline _ | .drainDeadline _ | .openingTimeout _ | .reset
  | .pulseLeadingEdge _ | .pulseInputHigh _ | .elapsedMillisecond | .lineSeenHigh | .resetRelease => true

end Sys2Proof
end

