-- ==== Sys2Proof/Decode.lean ====
section
/-! DEFINITION. Bytes: the frame check (R1), the frame form (R172), the request catalogue with its codes and payloads
(R166, R169, R170) and the cabinet messages (R177), decoded and encoded. No row of spec/opcode_table.json gives bits, so
`decodeTableWord` spells nothing. -/

namespace Sys2Proof

/-! ### The frame check, R1 -/

/-- One bit of the division by x^16 + x^12 + x^5 + 1. -/
def checkBit (c : Nat) : Nat := if 32768 ≤ c then ((c * 2) % 65536) ^^^ 0x1021 else c * 2

/-- One byte of the check: most significant bit first, not reflected. -/
def checkByte (c : Nat) (b : Byte) : Nat := Nat.repeat checkBit 8 (c ^^^ (b.toNat * 256))

/-- R1: the 16-bit check of a run of bytes, from 0xFFFF, without a final inversion. -/
def frameCheck (bytes : List Byte) : Nat := bytes.foldl checkByte 0xFFFF

/-! ### Multi-byte fields, most significant byte first (00_scope.md, Arithmetic and notation) -/

/-- The low `n` bytes of a value, most significant first. -/
def toBytes : Nat → Nat → List Byte
  | 0, _ => []
  | n + 1, v => BitVec.ofNat 8 (v / 256 ^ n) :: toBytes n v

/-- A signed value in `n` bytes, two's complement (R168). -/
def toBytesInt (n : Nat) (v : Int) : List Byte := toBytes n (v % (256 ^ n : Int)).toNat

/-- The value of a run of bytes, most significant first. -/
def ofBytes (bytes : List Byte) : Nat := bytes.foldl (fun acc b => acc * 256 + b.toNat) 0

/-- The field of `n` bytes at an offset. -/
def fieldAt (bytes : List Byte) (offset n : Nat) : Nat := ofBytes ((bytes.drop offset).take n)

/-- The byte at an offset. -/
def byteAt (bytes : List Byte) (offset : Nat) : Byte := bytes.getD offset 0

/-- Bytes with their check appended. -/
def withCheck (bytes : List Byte) : List Byte := bytes ++ toBytes 2 (frameCheck bytes)

/-! ### Frames, R172 -/

/-- A request or message frame after its start byte, its check correct: R172 with R1's coverage. -/
def requestFrame (code : Byte) (payload : List Byte) : RawFrame :=
  { length := BitVec.ofNat 8 (payload.length + 1)
    rest := code :: payload ++ toBytes 2 (frameCheck (BitVec.ofNat 8 (payload.length + 1) :: code :: payload)) }

/-- The code and payload of a complete frame: all but the two check bytes. -/
def RawFrame.content (f : RawFrame) : List Byte := f.rest.take f.length.toNat

/-- R1: whether the two check bytes are right. -/
def RawFrame.checkOk (f : RawFrame) : Bool :=
  f.rest.drop f.length.toNat == toBytes 2 (frameCheck (f.length :: f.content))

/-! ### The request catalogue, R169 and R170 -/

/-- R169, R170: the codes a port accepts. READ_STATUS and SWAP_NOTICES carry the same codes on both. -/
def acceptsCode : PortId → Nat → Bool
  | .settlement, c => [0x01, 0x02, 0x10, 0x11, 0x12, 0x13, 0x14, 0x15, 0x16, 0x17, 0x18].contains c
  | .site, c => [0x01, 0x02, 0x30, 0x31, 0x32, 0x33, 0x34, 0x35, 0x36, 0x37, 0x38, 0x39, 0x3A].contains c

/-- The 12 bytes of the payment reference at an offset. -/
def refAt (payload : List Byte) (offset : Nat) : Vector Byte 12 :=
  Vector.ofFn fun i => byteAt payload (offset + i.val)

/-- R169, R170: the command that an accepted code and its payload stand for; none where the payload length is not one
the request allows (R166, order 5). -/
def requestOf (port : PortId) (code : Nat) (p : List Byte) : Option Instr :=
  let n := p.length
  match code with
  | 0x01 => if n = 0 then some (.readStatus port) else none
  | 0x02 => if n = 0 then some (.swapNotices port) else none
  | 0x10 => if n = 19 then
      some (.arm (byteAt p 0) (.ofNat 32 (fieldAt p 1 4)) (byteAt p 5) (byteAt p 6) (refAt p 7)) else none
  | 0x11 => if n = 8 then some (.topup (.ofNat 32 (fieldAt p 0 4)) (.ofNat 32 (fieldAt p 4 4))) else none
  | 0x12 => if n = 4 then some (.stop (.ofNat 32 (fieldAt p 0 4))) else none
  | 0x13 => if n = 1 then some (.querySession (byteAt p 0)) else none
  | 0x14 => if n = 0 then some .peekClosure else none
  | 0x15 => if n = 4 then some (.releaseClosure (.ofNat 32 (fieldAt p 0 4))) else none
  | 0x16 => if 11 ≤ n then
      some (.writePlan (byteAt p 0) (.ofNat 32 (fieldAt p 1 4)) (.ofNat 32 (fieldAt p 5 4)) (byteAt p 9) (byteAt p 10)
        (p.drop 11)) else none
  | 0x17 => if n = 1 then some (.readPlan (byteAt p 0)) else none
  | 0x18 => if n = 1 then some (.invalidatePlan (byteAt p 0)) else none
  | 0x30 => if n = 4 then some (.setCap (.ofNat 16 (fieldAt p 0 2)) (.ofNat 16 (fieldAt p 2 2))) else none
  | 0x31 => if n = 6 then some (.timeRef (.ofNat 48 (fieldAt p 0 6))) else none
  | 0x32 => if n = 6 then some (.configWrite (byteAt p 0) (byteAt p 1) (.ofNat 32 (fieldAt p 2 4))) else none
  | 0x33 => if n = 2 then some (.configRead (byteAt p 0) (byteAt p 1)) else none
  | 0x34 => if n = 0 then some .startPark else none
  | 0x35 => if n = 0 then some .stopPark else none
  | 0x36 => if n = 2 then
      some (if byteAt p 1 = 1 then .moduleServiceIn (byteAt p 0) else .moduleServiceOut (byteAt p 0) (byteAt p 1))
      else none
  | 0x37 => if n = 1 then some (.moduleClear (byteAt p 0)) else none
  | 0x38 => if n = 0 then some .readSite else none
  | 0x39 => if n = 1 then some (.readOutlet (byteAt p 0)) else none
  | 0x3A => if n = 2 then
      some (if byteAt p 0 = 1 then .readCountersClear (byteAt p 1) else .readCounters (byteAt p 0) (byteAt p 1))
      else none
  | _ => none

/-- R166: what a complete frame is judged to be. -/
inductive FrameVerdict where
  /-- Orders 1, 2 and 5: answered BAD_FRAME. -/
  | badFrame
  /-- Orders 3 and 4: answered UNKNOWN_REQUEST with the code echoed. -/
  | unknownRequest (code : Byte)
  /-- Order 6: handed to its owner. -/
  | request (i : Instr)
deriving DecidableEq, Repr

/-- R166: the judgement of a complete frame, in its order. -/
def judgeFrame (port : PortId) (f : RawFrame) : FrameVerdict :=
  if f.length = 0#8 ∨ 196 < f.length.toNat then .badFrame
  else if !f.checkOk then .badFrame
  else if !acceptsCode port (byteAt f.rest 0).toNat then .unknownRequest (byteAt f.rest 0)
  else match requestOf port (byteAt f.rest 0).toNat (f.content.drop 1) with
    | none => .badFrame
    | some i => .request i

/-- R169, R170: the port, code and payload of a request command; none for an event that no frame asks for. -/
def encodeRequest : Instr → Option (PortId × Byte × List Byte)
  | .readStatus port => some (port, 0x01, [])
  | .swapNotices port => some (port, 0x02, [])
  | .arm o hold plan cls ref =>
    some (.settlement, 0x10, o :: toBytes 4 hold.toNat ++ [plan, cls] ++ ref.toList)
  | .topup n amount => some (.settlement, 0x11, toBytes 4 n.toNat ++ toBytes 4 amount.toNat)
  | .stop n => some (.settlement, 0x12, toBytes 4 n.toNat)
  | .querySession o => some (.settlement, 0x13, [o])
  | .peekClosure => some (.settlement, 0x14, [])
  | .releaseClosure n => some (.settlement, 0x15, toBytes 4 n.toNat)
  | .writePlan plan fee idle grace count bands =>
    some (.settlement, 0x16, plan :: toBytes 4 fee.toNat ++ toBytes 4 idle.toNat ++ [grace, count] ++ bands)
  | .readPlan plan => some (.settlement, 0x17, [plan])
  | .invalidatePlan plan => some (.settlement, 0x18, [plan])
  | .setCap cap validity => some (.site, 0x30, toBytes 2 cap.toNat ++ toBytes 2 validity.toNat)
  | .timeRef ref => some (.site, 0x31, toBytes 6 ref.toNat)
  | .configWrite item index value => some (.site, 0x32, item :: index :: toBytes 4 value.toNat)
  | .configRead item index => some (.site, 0x33, [item, index])
  | .startPark => some (.site, 0x34, [])
  | .stopPark => some (.site, 0x35, [])
  | .moduleServiceOut m direction => some (.site, 0x36, [m, direction])
  | .moduleServiceIn m => some (.site, 0x36, [m, 1])
  | .moduleClear m => some (.site, 0x37, [m])
  | .readSite => some (.site, 0x38, [])
  | .readOutlet o => some (.site, 0x39, [o])
  | .readCounters clear part => some (.site, 0x3A, [clear, part])
  | .readCountersClear part => some (.site, 0x3A, [1, part])
  | .badFrame _ _ | .unknownRequest _ _ | .responseOverrun _ | .requestGapTimeout _ _ | .responseSent _
  | .confirm _ _ | .faultOn _ | .faultOff _ | .cabinetFrameError _ | .unusableMessage _ | .cabinetGapTimeout _
  | .cabinetMessageSent | .reportFrame _ _ _ | .gapTimeOut _ _ | .rejectedCharacter _ | .unaddressedFrame _ _
  | .unaddressedCharacter | .openingBegin | .openingEnd | .replyWindowClose | .cycleExpiry _ | .pulseTaken _
  | .runt _ | .armDeadline _ | .suspendDeadline _ | .settleDeadline _ | .idleMinuteAccrual _ | .trimAdjustment
  | .holdoverDeadline | .targetExpiry | .switchTimeout _ | .warmUpDeadline _ | .drainDeadline _
  | .openingTimeout _ | .reset | .pulseLeadingEdge _ | .pulseInputHigh _ | .elapsedMillisecond
  | .reportDiscard _ _ _ | .lineSeenHigh | .resetRelease => none

/-! ### The cabinet link, R152 and R177 -/

/-- R152, R177: what a complete incoming cabinet message is judged to be. -/
inductive CabinetVerdict where
  /-- Bad check, or a length no message can have. -/
  | frameError
  /-- Unknown code, a length that does not match the code, a bad module number or a bad route. -/
  | unusable
  /-- A well-formed CONFIRM, FAULT_ON or FAULT_OFF. -/
  | message (i : Instr)
deriving DecidableEq, Repr

/-- R177: the module number in a payload byte. -/
def moduleOfByte (b : Byte) : Option ModuleNo := if h : b.toNat < 32 then some ⟨b.toNat, h⟩ else none

/-- R177: the route in a CONFIRM: an outlet, none (0xFF), or neither. -/
def routeOfByte (b : Byte) : Option (Option Outlet) :=
  if h : b.toNat < 16 then some (some ⟨b.toNat, h⟩) else if b = 0xFF#8 then some none else none

/-- R177: the message of a code and its payload. -/
def cabinetMessageOf (code : Nat) (payload : List Byte) : Option Instr :=
  match code, payload with
  | 0x81, [m, r] =>
    match moduleOfByte m, routeOfByte r with
    | some m, some r => some (.confirm m r)
    | _, _ => none
  | 0x82, [m] => (moduleOfByte m).map .faultOn
  | 0x83, [m] => (moduleOfByte m).map .faultOff
  | _, _ => none

/-- R152, R177: the judgement of a complete cabinet message. -/
def judgeCabinet (f : RawFrame) : CabinetVerdict :=
  if f.length ≠ 2#8 ∧ f.length ≠ 3#8 then .frameError
  else if !f.checkOk then .frameError
  else match cabinetMessageOf (byteAt f.rest 0).toNat (f.content.drop 1) with
    | none => .unusable
    | some i => .message i

/-- R177: the code and payload of an incoming cabinet message; none for every other command. -/
def encodeCabinet : Instr → Option (Byte × List Byte)
  | .confirm m route =>
    some (0x81, [.ofNat 8 m.val, match route with | some o => .ofNat 8 o.val | none => 0xFF])
  | .faultOn m => some (0x82, [.ofNat 8 m.val])
  | .faultOff m => some (0x83, [.ofNat 8 m.val])
  | _ => none

/-! ### The host's table words -/

/-- The command that a word of the opcode table spells: none, because no row of the table gives bits. -/
def decodeTableWord (_nbits _w : Nat) : Option Instr := none

end Sys2Proof
end

