-- ==== Sys2Proof/Config.lean ====
section
/-! DEFINITION. What the spec fixes for every part (capacities and limits), and the one value it leaves free. -/

namespace Sys2Proof.Config

/-- R155: the closure queue's room. -/
def closureRoom : Nat := 32

/-- R167: the responses a port holds, the one being sent included. -/
def responseRoom : Nat := 8

/-- R53, R41: the largest hold, in minor units. -/
def maxHold : Nat := 999999

/-- Powers in steps stop at 4000.0 kW (R92, R100, R116). -/
def maxSteps : Nat := 40000

/-- R32: the largest session fee and idle fee, in fu. -/
def maxFee : Nat := 5000000

/-- R32: the largest grace period, in minutes. -/
def maxGrace : Nat := 240

/-- R33: the largest energy price, in fu/kWh. -/
def maxPrice : Nat := 2000000

/-- The FREE VALUE of assumption log 6: what elapsed time reads when one more millisecond passes at 2^48 − 1.
R19 says only that a part does not live so long. The argument is the count of earlier draws, so that no two
draws need agree. It has no body: nothing can be proved of it but its width. -/
opaque elapsedAfterLast : Nat → BitVec 48

end Sys2Proof.Config
end

