-- ==== Sys2Proof/Machine/State.lean ====
section
/-! DEFINITION. The state of the part, block by block as 00_scope.md lists the blocks, its reset, and the reasons a step can stop. -/

namespace Sys2Proof.Machine

/-- The block has no stop of its own: every request is answered by a status (R168) and every event has its effect or
has not occurred. No meaning raises a fault, so there is no reason to list; claims lose nothing by it (safe). -/
inductive Fault where
deriving DecidableEq, Repr

/-- Why a command has no meaning. -/
inductive Refusal where
  /-- Raised by `exec` for a command the model gives no meaning yet (safe). No arm raises it now. -/
  | notModelled (mnemonic : String)
deriving DecidableEq, Repr

/-! ### Park Mode Control -/

/-- R2. -/
inductive ParkMode where
  | maintenance
  | operating
deriving DecidableEq, Repr

/-- R3: the park items; `none` is unset. -/
structure ParkItems where
  cyclePeriod : Nat
  slotLength : Nat
  moduleRating : Option Nat
  auxReserve : Nat
  siteRamp : Option Nat
  fallbackCap : Option Nat
  missLimit : Nat
  resumeLimit : Nat
  armTimeout : Nat
  settleWindow : Nat
  guardEnergy : Nat
  fundsWarning : Nat
  minimumHold : Nat
  stepThreshold : Nat
  filterDepth : Nat
  holdoverTime : Nat
  releaseHold : Nat
  switchTimeout : Nat
  warmUpTime : Nat
  drainTime : Nat
deriving DecidableEq, Repr

/-- R4: the items of one outlet; `none` is unset. -/
structure OutletItems where
  present : Bool
  maximum : Option Nat
  minimum : Option Nat
  ramp : Option Nat
  moduleLimit : Nat
  pulseWeight : Nat
  pulseMinWidth : Nat
deriving DecidableEq, Repr

/-- R4: the items of one module. -/
structure ModuleItems where
  inService : Bool
  reach : OutletSet
deriving DecidableEq, Repr

/-- Park Mode Control: the mode (R2), the configuration set (R3, R4), the dispatch cycle timer (R13: `none` is stopped,
else the elapsed time of the next expiry). -/
structure ModeControl where
  mode : ParkMode
  park : ParkItems
  outlets : Vector OutletItems 16
  modules : Vector ModuleItems 32
  cycleTimer : Option Nat
deriving DecidableEq, Repr

/-! ### Park Clock -/

/-- R22. -/
inductive SyncState where
  | unsynced
  | synced
  | holdover
deriving DecidableEq, Repr

/-- The Park Clock (R19 to R22). `freeDraws` is the model's own counter for the free value of log 6. -/
structure Clock where
  elapsed : Nat
  parkTime : Nat
  trim : Int
  adjust : Nat
  smoothed : Int
  sync : SyncState
  slewing : Bool
  holdoverDeadline : Option Nat
  freeDraws : Nat
deriving DecidableEq, Repr

/-! ### Tariff Store -/

/-- R32: a band's start minute and its price in fu/kWh. -/
structure Band where
  start : Nat
  price : Nat
deriving DecidableEq, Repr

/-- R32. -/
structure Plan where
  valid : Bool
  sessionFee : Nat
  idleFee : Nat
  grace : Nat
  bands : List Band
deriving DecidableEq, Repr

/-- R38, R40: a session's copy of a plan. -/
structure TariffCopy where
  plan : Nat
  sessionFee : Nat
  idleFee : Nat
  grace : Nat
  bands : List Band
deriving DecidableEq, Repr

/-! ### Session Table and closure records -/

/-- R40, R58. -/
inductive EndReason where
  | user
  | operator
  | funds
  | unplug
  | pedestalFault
  | linkLost
  | noStart
  | overdraw
deriving DecidableEq, Repr

/-- R154: one band of a closure record with its subtotal. -/
structure ClosedBand where
  start : Nat
  price : Nat
  subtotal : Nat
deriving DecidableEq, Repr

/-- R154. `none` is an absent field. -/
structure ClosureRecord where
  number : Nat
  outlet : Outlet
  paymentRef : Vector Byte 12
  cls : Nat
  hold : Nat
  billed : Nat
  accrued : Nat
  overrun : Nat
  feeCharged : Nat
  energyCharge : Nat
  energyRemainder : Nat
  idleCharge : Nat
  idleMinutes : Nat
  pulseEnergy : Nat
  plan : Nat
  sessionFee : Nat
  idleFee : Nat
  grace : Nat
  bands : List ClosedBand
  meterDelta : Option Nat
  armTime : Nat
  chargeStart : Option Nat
  stopTime : Nat
  closureTime : Nat
  endReason : EndReason
  capped : Bool
  meterDisagree : Bool
  timeStepped : Bool
  timeSlewed : Bool
  holdoverSeen : Bool
deriving DecidableEq, Repr

/-- R40: what a session can be suspended from. -/
inductive Resumable where
  | charging
  | parked
deriving DecidableEq, Repr

/-- R39, R40: the session state, with the fields that exist in that state only: the arm deadline; suspended-from and the
suspend deadline; the end reason, stop time and settle deadline; the final record (R62) and the entry stamp (R157). -/
inductive SessionState where
  | armed (armDeadline : Nat)
  | charging
  | parked
  | suspended (suspendedFrom : Resumable) (suspendDeadline : Nat)
  | stopping (endReason : EndReason) (stopTime : Nat) (settleDeadline : Option Nat)
  | closedWait (closure : ClosureRecord) (entryStamp : Nat)
deriving DecidableEq, Repr

/-- R40, R45: the fields that are absent until the first entry into CHARGING. -/
structure ChargeStart where
  stamp : Nat
  meterStart : Nat
  lastMeter : Nat
  startTime : Nat
deriving DecidableEq, Repr

/-- R40: a session record. Its outlet is its slot's index. `minutesAccrued` is the model's own count of the accruals of R83
served (log 8). -/
structure Session where
  number : Nat
  state : SessionState
  paymentRef : Vector Byte 12
  cls : Nat
  hold : Nat
  tariff : TariffCopy
  charge : Option ChargeStart
  feeCharged : Nat
  energyCharge : Nat
  energyRemainder : Nat
  idleCharge : Nat
  pulseEnergy : Nat
  bandSubtotals : List Nat
  parkedElapsed : Nat
  minutesAccrued : Nat
  idleMinutes : Nat
  armTime : Nat
  fundsLowSent : Bool
  timeStepped : Bool
  timeSlewed : Bool
  holdoverSeen : Bool
deriving DecidableEq, Repr

/-- R39: the slots (`none` is VACANT), the session counter and the service counter. -/
structure SessionTable where
  slots : Vector (Option Session) 16
  nextNumber : Nat
  nextStamp : Nat
deriving DecidableEq, Repr

/-! ### Metering Unit -/

/-- R64: the pulse filter; low count and stamp exist while a low level is measured (R65, R67). -/
inductive PulseFilter where
  | start
  | high
  | lowMeasuring (lowCount stamp : Nat)
  | lowTaken
deriving DecidableEq, Repr

/-- R64, R73, R77: one outlet's filter and counters. -/
structure Meter where
  filter : PulseFilter
  pulses : Nat
  runts : Nat
  stray : Nat
  overdraw : Nat
deriving DecidableEq, Repr

/-! ### Line Controller and Report Exchange -/

/-- R100: the defined pedestal states. -/
inductive PedestalState where
  | empty
  | plugged
  | ready
  | charging
  | complete
  | fault
deriving DecidableEq, Repr

/-- R100: a report as accepted. -/
structure Report where
  echo : Nat
  state : PedestalState
  stopPressed : Bool
  requested : Nat
  measured : Nat
  meter : Nat
deriving DecidableEq, Repr

/-- R102: one outlet's three buffers and their roles. -/
structure Exchange where
  buffers : Vector (Option Report) 3
  writing : Fin 3
  latest : Option (Fin 3)
  held : Option (Fin 3)
deriving DecidableEq, Repr

/-- R106. -/
inductive LinkState where
  | unknown
  | online
  | unreachable
deriving DecidableEq, Repr

/-- R96 to R99: the receive state of the line between events (log 10). -/
inductive LineRx where
  /-- After reset or a framing fault: waiting for the line to be seen high. -/
  | awaitingHigh
  /-- Waiting for a frame. -/
  | waiting
  /-- A frame with this address has begun. -/
  | assembling (addr : Byte)
deriving DecidableEq, Repr

/-- R96, R114: a character on the line: its mark bit, set in an address character, and its 8 data bits. -/
structure LineChar where
  mark : Bool
  data : Byte
deriving DecidableEq, Repr

/-- R101, R105, R106, R113: what the Line Controller holds for one outlet. -/
structure OutletLink where
  link : LinkState
  miss : Nat
  published : Nat
  discards : Nat
deriving DecidableEq, Repr

/-- The Line Controller (R101, R108, R109, R111, R114). `sending` holds the characters of the opening on the line. -/
structure LineController where
  cycleNumber : Nat
  openingPending : Bool
  rx : LineRx
  sending : Option (List LineChar)
  replyWindow : Option Nat
  lineErrors : Nat
  gapErrors : Nat
  unaddressed : Nat
  openingsSkipped : Nat
  outlets : Vector OutletLink 16
deriving DecidableEq, Repr

/-! ### Dispatcher -/

/-- R115: `none` is the field's own value. -/
inductive Admission where
  | none
  | admitted
  | queued
deriving DecidableEq, Repr

/-- R115: the dispatch record of one outlet. -/
structure DispatchRecord where
  demand : Nat
  ceiling : Nat
  minimum : Nat
  grant : Nat
  admission : Admission
  excess : Nat
deriving DecidableEq, Repr

/-- R116: a cap target with its expiry. -/
structure CapTarget where
  cap : Nat
  expiry : Nat
deriving DecidableEq, Repr

/-- R115. -/
structure Dispatcher where
  capTarget : Option CapTarget
  effectiveCap : Nat
  available : Nat
  records : Vector DispatchRecord 16
deriving DecidableEq, Repr

/-! ### Module Pool -/

/-- R135. -/
inductive FaultReason where
  | cabinetFault
  | confirmTimeout
  | routeMismatch
deriving DecidableEq, Repr

/-- R135. -/
inductive Indication where
  | none
  | faultOn
  | faultOff
deriving DecidableEq, Repr

/-- R136: the module state, with the assigned outlet, the deadline, open-on-confirm and the fault reason where the state has
them. -/
inductive ModuleState where
  | outOfService
  | free
  | switching (outlet : Outlet) (deadline : Nat) (openOnConfirm : Bool)
  | warming (outlet : Outlet) (deadline : Nat)
  | active (outlet : Outlet)
  | draining (outlet : Outlet) (deadline : Nat)
  | opening (outlet : Outlet) (deadline : Nat)
  | faulted (reason : FaultReason)
deriving DecidableEq, Repr

/-- R135: a module record; its number is its index. -/
structure Module where
  state : ModuleState
  reach : OutletSet
  leaving : Bool
  indication : Indication
deriving DecidableEq, Repr

/-- R177: the messages to the cabinet. -/
inductive CabinetMsg where
  | route (module : ModuleNo) (outlet : Outlet)
  | unroute (module : ModuleNo)
deriving DecidableEq, Repr

/-- R165: the receive state of a byte receiver; `body` holds L and how many of the L + 2 bytes have come. The gap timer runs
in LENGTH and BODY. -/
inductive RxState where
  | hunting
  | length
  | body (len : Byte) (got : Nat)
deriving DecidableEq, Repr

/-- R151 to R153: the cabinet link. -/
structure CabinetLink where
  waiting : List CabinetMsg
  sending : Option CabinetMsg
  rx : RxState
  frameErrors : Nat
  unusable : Nat
  unexpectedConfirms : Nat
deriving DecidableEq, Repr

/-- The Module Pool (R135, R137, R151, R153). -/
structure ModulePool where
  modules : Vector Module 32
  cabinet : CabinetLink
  shortfalls : Vector Nat 16
deriving DecidableEq, Repr

/-! ### Notice Sets -/

/-- R161: the settlement set. A kind with subjects is pending exactly when its set is not empty. -/
structure SettlementNotices where
  closureReady : Bool
  charging : OutletSet
  suspended : OutletSet
  stopping : OutletSet
  fundsLow : OutletSet
  strayEnergy : OutletSet
deriving DecidableEq, Repr

/-- R161: the site set. -/
structure SiteNotices where
  capExpired : Bool
  moduleFault : ModuleSet
  timeHoldover : Bool
  timeStepped : Bool
  overdraw : OutletSet
  unreachable : OutletSet
  openingSkipped : Bool
deriving DecidableEq, Repr

/-- R161. -/
structure NoticeSets where
  settlement : SettlementNotices
  site : SiteNotices
deriving DecidableEq, Repr

/-! ### Request Ports -/

/-- R168: the status of a response. -/
inductive Status where
  | ok
  | already
  | empty
  | badFrame
  | unknownRequest
  | badValue
  | wrongMode
  | outletBusy
  | outletDown
  | noTime
  | badPlan
  | lowHold
  | overLimit
  | tooLate
  | unknownSession
  | mismatch
  | liveSessions
  | modulesMoving
  | invalidConfig
  | faultPresent
deriving DecidableEq, Repr

/-- R172: a response, without its start byte, length and check, which `Response.bytes` forms. -/
structure Response where
  code : Byte
  status : Status
  payload : List Byte
deriving DecidableEq, Repr

/-- R165, R167: one request port. -/
structure Port where
  rx : RxState
  responses : List Response
  gaps : Nat
  overruns : Nat
deriving DecidableEq, Repr

/-- R171: the counters of one outlet in the snapshot. -/
structure OutletCounters where
  pulses : Nat
  runts : Nat
  stray : Nat
  overdraw : Nat
  discards : Nat
  shortfall : Nat
deriving DecidableEq, Repr

/-- R171: the counter snapshot of the site port, in the order of part 0. -/
structure Snapshot where
  lineErrors : Nat
  gapErrors : Nat
  unaddressed : Nat
  openingsSkipped : Nat
  cabinetFrameErrors : Nat
  unusable : Nat
  unexpectedConfirms : Nat
  settlementGaps : Nat
  settlementOverruns : Nat
  siteGaps : Nat
  siteOverruns : Nat
  outlets : Vector OutletCounters 16
deriving DecidableEq, Repr

/-- The request ports (R165, R167, R171). -/
structure RequestPorts where
  settlement : Port
  site : Port
  snapshot : Snapshot
deriving DecidableEq, Repr

/-! ### The part -/

/-- The state of the part: `held` while the part is held in reset (R18), its blocks, and the commands waiting. -/
structure State where
  held : Bool
  control : ModeControl
  clock : Clock
  plans : Vector Plan 8
  sessions : SessionTable
  meters : Vector Meter 16
  line : LineController
  exchanges : Vector Exchange 16
  dispatcher : Dispatcher
  pool : ModulePool
  closures : List ClosureRecord
  notices : NoticeSets
  ports : RequestPorts
  pending : List Instr
deriving DecidableEq, Repr

/-! ### Reset -/

/-- R3: the column "Reset". -/
def ParkItems.reset : ParkItems :=
  { cyclePeriod := 500, slotLength := 8, moduleRating := none, auxReserve := 0, siteRamp := none, fallbackCap := none,
    missLimit := 4, resumeLimit := 60, armTimeout := 180, settleWindow := 2000, guardEnergy := 50,
    fundsWarning := 2000, minimumHold := 500, stepThreshold := 2000, filterDepth := 3, holdoverTime := 600,
    releaseHold := 6, switchTimeout := 300, warmUpTime := 1500, drainTime := 800 }

/-- R4: the column "Reset". -/
def OutletItems.reset : OutletItems :=
  { present := false, maximum := none, minimum := none, ramp := none, moduleLimit := 1, pulseWeight := 10,
    pulseMinWidth := 5 }

/-- R4: the column "Reset". -/
def ModuleItems.reset : ModuleItems := { inService := false, reach := 0 }

/-- R18. -/
def ModeControl.reset : ModeControl :=
  { mode := .maintenance, park := .reset, outlets := Vector.replicate 16 .reset,
    modules := Vector.replicate 32 .reset, cycleTimer := none }

/-- R22. -/
def Clock.reset : Clock :=
  { elapsed := 0, parkTime := 0, trim := 0, adjust := 0, smoothed := 0, sync := .unsynced, slewing := false,
    holdoverDeadline := none, freeDraws := 0 }

/-- R32: the reset contents. -/
def Plan.reset : Plan :=
  { valid := false, sessionFee := 0, idleFee := 0, grace := 0, bands := [{ start := 0, price := 0 }] }

/-- R39. -/
def SessionTable.reset : SessionTable :=
  { slots := Vector.replicate 16 none, nextNumber := 1, nextStamp := 1 }

/-- R64, R73, R77. -/
def Meter.reset : Meter := { filter := .start, pulses := 0, runts := 0, stray := 0, overdraw := 0 }

/-- R102: every buffer empty, buffer 0 WRITING. -/
def Exchange.reset : Exchange :=
  { buffers := Vector.replicate 3 none, writing := 0, latest := none, held := none }

/-- R101, R106, R115. -/
def OutletLink.reset : OutletLink := { link := .unknown, miss := 0, published := 0, discards := 0 }

/-- R18, R96, R101, R109. -/
def LineController.reset : LineController :=
  { cycleNumber := 0, openingPending := false, rx := .awaitingHigh, sending := none, replyWindow := none,
    lineErrors := 0, gapErrors := 0, unaddressed := 0, openingsSkipped := 0,
    outlets := Vector.replicate 16 .reset }

/-- R115: the starting record. -/
def DispatchRecord.starting : DispatchRecord :=
  { demand := 0, ceiling := 0, minimum := 0, grant := 0, admission := .none, excess := 0 }

/-- R115. -/
def Dispatcher.reset : Dispatcher :=
  { capTarget := none, effectiveCap := 0, available := 0, records := Vector.replicate 16 .starting }

/-- R135. -/
def Module.reset : Module := { state := .outOfService, reach := 0, leaving := false, indication := .none }

/-- R151, R152, R153. -/
def CabinetLink.reset : CabinetLink :=
  { waiting := [], sending := none, rx := .hunting, frameErrors := 0, unusable := 0, unexpectedConfirms := 0 }

/-- R135, R137. -/
def ModulePool.reset : ModulePool :=
  { modules := Vector.replicate 32 .reset, cabinet := .reset, shortfalls := Vector.replicate 16 0 }

/-- R161: the empty settlement set. -/
def SettlementNotices.empty : SettlementNotices :=
  { closureReady := false, charging := 0, suspended := 0, stopping := 0, fundsLow := 0, strayEnergy := 0 }

/-- R161: the empty site set. -/
def SiteNotices.empty : SiteNotices :=
  { capExpired := false, moduleFault := 0, timeHoldover := false, timeStepped := false, overdraw := 0,
    unreachable := 0, openingSkipped := false }

/-- R165, R167. -/
def Port.reset : Port := { rx := .hunting, responses := [], gaps := 0, overruns := 0 }

/-- R171: the snapshot's reset contents. -/
def Snapshot.reset : Snapshot :=
  { lineErrors := 0, gapErrors := 0, unaddressed := 0, openingsSkipped := 0, cabinetFrameErrors := 0, unusable := 0,
    unexpectedConfirms := 0, settlementGaps := 0, settlementOverruns := 0, siteGaps := 0, siteOverruns := 0,
    outlets := Vector.replicate 16
      { pulses := 0, runts := 0, stray := 0, overdraw := 0, discards := 0, shortfall := 0 } }

/-- The machine at the end of reset (R18, R19): every block at its reset values and no command waiting. -/
def State.reset : State :=
  { held := false
    control := .reset
    clock := .reset
    plans := Vector.replicate 8 .reset
    sessions := .reset
    meters := Vector.replicate 16 .reset
    line := .reset
    exchanges := Vector.replicate 16 .reset
    dispatcher := .reset
    pool := .reset
    closures := []
    notices := { settlement := .empty, site := .empty }
    ports := { settlement := .reset, site := .reset, snapshot := .reset }
    pending := [] }

end Sys2Proof.Machine
end

