-- ==== Sys2Proof/Machine/Ops.lean ====
section
/-! DEFINITION. The named operations over the state: how an event is served, the accessors and updates of each block, notices,
the cabinet transmit queue, the module operations and the entry into STOPPING. -/

namespace Sys2Proof.Machine

/-! ### Serving an event -/

/-- R18: while the part is held in reset nothing but RESET and RESET_RELEASE reaches it; otherwise the event has its
effect. -/
def State.event (s : State) (effect : State → State) : Host.Outcome State Fault Refusal :=
  .next (if s.held then s else effect s)

/-! ### Accessors and updates, one home per piece of state -/

/-- R39. -/
def State.slot (s : State) (o : Outlet) : Option Session := s.sessions.slots[o]

def State.setSlot (s : State) (o : Outlet) (v : Option Session) : State :=
  { s with sessions := { s.sessions with slots := s.sessions.slots.set o v } }

def State.meter (s : State) (o : Outlet) : Meter := s.meters[o]

def State.setMeter (s : State) (o : Outlet) (m : Meter) : State := { s with meters := s.meters.set o m }

def State.link (s : State) (o : Outlet) : OutletLink := s.line.outlets[o]

def State.setLink (s : State) (o : Outlet) (l : OutletLink) : State :=
  { s with line := { s.line with outlets := s.line.outlets.set o l } }

def State.exchange (s : State) (o : Outlet) : Exchange := s.exchanges[o]

def State.setExchange (s : State) (o : Outlet) (x : Exchange) : State := { s with exchanges := s.exchanges.set o x }

def State.record (s : State) (o : Outlet) : DispatchRecord := s.dispatcher.records[o]

def State.setRecord (s : State) (o : Outlet) (r : DispatchRecord) : State :=
  { s with dispatcher := { s.dispatcher with records := s.dispatcher.records.set o r } }

def State.module (s : State) (m : ModuleNo) : Module := s.pool.modules[m]

def State.setModule (s : State) (m : ModuleNo) (v : Module) : State :=
  { s with pool := { s.pool with modules := s.pool.modules.set m v } }

def State.setModuleState (s : State) (m : ModuleNo) (st : ModuleState) : State :=
  s.setModule m { s.module m with state := st }

def State.setCabinet (s : State) (c : CabinetLink) : State := { s with pool := { s.pool with cabinet := c } }

def State.outletItems (s : State) (o : Outlet) : OutletItems := s.control.outlets[o]

def State.port (s : State) : PortId → Port
  | .settlement => s.ports.settlement
  | .site => s.ports.site

def State.setPort (s : State) (p : PortId) (v : Port) : State :=
  match p with
  | .settlement => { s with ports := { s.ports with settlement := v } }
  | .site => { s with ports := { s.ports with site := v } }

/-- R4: whether the outlet is present. -/
def State.present (s : State) (o : Outlet) : Bool := (s.outletItems o).present

/-- R102: the report in the HELD buffer. -/
def Exchange.heldReport (x : Exchange) : Option Report := x.held.bind fun b => x.buffers[b]

/-! ### Sets of outlets and modules -/

/-- The set with one member. -/
def outletBit (o : Outlet) : OutletSet := 1#16 <<< o.val

def moduleBit (m : ModuleNo) : ModuleSet := 1#32 <<< m.val

/-- R135: whether an outlet is in a reach. -/
def OutletSet.has (r : OutletSet) (o : Outlet) : Bool := r.getLsbD o.val

/-! ### Answers to requests, R166 to R168 -/

/-- What the owner of a request answers: the state it leaves, the status and the payload. -/
structure Answer where
  state : State
  status : Status
  payload : List Byte

/-- A refusal, or an answer that changes nothing: the state as it was (00_scope.md, How behaviour is stated). -/
def State.answer (s : State) (status : Status) (payload : List Byte := []) : Answer := ⟨s, status, payload⟩

/-- R166, R167: the frame is complete, the receiver hunts again, and the response joins the tail of the queue. -/
def State.respond (s : State) (p : PortId) (code : Byte) (status : Status) (payload : List Byte) : State :=
  s.setPort p { s.port p with rx := .hunting, responses := (s.port p).responses ++ [⟨code, status, payload⟩] }

/-- R167: a frame completes while 8 responses are held. -/
def State.overrun (s : State) (p : PortId) : State :=
  s.setPort p { s.port p with rx := .hunting, overruns := satAdd (s.port p).overruns 1 }

/-- R167: whether the port's response queue is full. -/
def State.portFull (s : State) (p : PortId) : Bool := decide (Config.responseRoom ≤ (s.port p).responses.length)

/-- R166, R167: a request of the catalogue completes on a port: not judged when 8 responses are held, otherwise served by its
owner, whose answer is queued. -/
def State.request (s : State) (p : PortId) (code : Byte) (owner : State → Answer) :
    Host.Outcome State Fault Refusal :=
  s.event fun s =>
    if s.portFull p then s.overrun p
    else (owner s).state.respond p code (owner s).status (owner s).payload

/-! ### Notices, R162 -/

/-- R161: the kinds whose subjects are outlets. -/
inductive OutletNotice where
  | sessionCharging
  | sessionSuspended
  | sessionStopping
  | fundsLow
  | strayEnergy
  | overdraw
  | outletUnreachable
deriving DecidableEq, Repr

/-- R161: the kinds without subjects. -/
inductive PlainNotice where
  | closureReady
  | capExpired
  | timeHoldover
  | timeStepped
  | openingSkipped
deriving DecidableEq, Repr

/-- R162: the outlet joins the kind's subject set. -/
def NoticeSets.raiseOutlet (n : NoticeSets) (k : OutletNotice) (o : Outlet) : NoticeSets :=
  match k with
  | .sessionCharging => { n with settlement.charging := n.settlement.charging ||| outletBit o }
  | .sessionSuspended => { n with settlement.suspended := n.settlement.suspended ||| outletBit o }
  | .sessionStopping => { n with settlement.stopping := n.settlement.stopping ||| outletBit o }
  | .fundsLow => { n with settlement.fundsLow := n.settlement.fundsLow ||| outletBit o }
  | .strayEnergy => { n with settlement.strayEnergy := n.settlement.strayEnergy ||| outletBit o }
  | .overdraw => { n with site.overdraw := n.site.overdraw ||| outletBit o }
  | .outletUnreachable => { n with site.unreachable := n.site.unreachable ||| outletBit o }

/-- R162: the kind becomes pending. -/
def NoticeSets.raise (n : NoticeSets) : PlainNotice → NoticeSets
  | .closureReady => { n with settlement.closureReady := true }
  | .capExpired => { n with site.capExpired := true }
  | .timeHoldover => { n with site.timeHoldover := true }
  | .timeStepped => { n with site.timeStepped := true }
  | .openingSkipped => { n with site.openingSkipped := true }

def State.raiseOutlet (s : State) (k : OutletNotice) (o : Outlet) : State :=
  { s with notices := s.notices.raiseOutlet k o }

def State.raise (s : State) (k : PlainNotice) : State := { s with notices := s.notices.raise k }

/-- R139, R144, R146: MODULE_FAULT for a module. -/
def State.raiseModuleFault (s : State) (m : ModuleNo) : State :=
  { s with notices := { s.notices with site.moduleFault := s.notices.site.moduleFault ||| moduleBit m } }

/-! ### The cabinet transmit queue, R151 -/

def CabinetMsg.module : CabinetMsg → ModuleNo
  | .route m _ => m
  | .unroute m => m

/-- R151: a message joins the tail, or replaces the message of the same module that still waits, in its place. -/
def enqueue (q : List CabinetMsg) (msg : CabinetMsg) : List CabinetMsg :=
  if q.any (fun w => w.module == msg.module) then q.map fun w => if w.module = msg.module then msg else w
  else q ++ [msg]

/-- R151: when the link is idle and the queue is not empty, sending of the head begins at once. -/
def CabinetLink.pump (c : CabinetLink) : CabinetLink :=
  match c.sending, c.waiting with
  | none, head :: rest => { c with sending := some head, waiting := rest }
  | _, _ => c

/-- R151: a message is issued. -/
def State.issue (s : State) (msg : CabinetMsg) : State :=
  s.setCabinet { s.pool.cabinet with waiting := enqueue s.pool.cabinet.waiting msg }.pump

/-! ### Modules -/

/-- R136: the assigned outlet, present in SWITCHING through OPENING. -/
def ModuleState.assigned : ModuleState → Option Outlet
  | .switching o _ _ => some o
  | .warming o _ => some o
  | .active o => some o
  | .draining o _ => some o
  | .opening o _ => some o
  | .outOfService => none
  | .free => none
  | .faulted _ => none

/-- R128: the outlet in whose holding the module counts: assigned in SWITCHING, WARMING or ACTIVE. -/
def ModuleState.heldBy : ModuleState → Option Outlet
  | .switching o _ _ => some o
  | .warming o _ => some o
  | .active o => some o
  | .draining _ _ => none
  | .opening _ _ => none
  | .outOfService => none
  | .free => none
  | .faulted _ => none

/-- R128: the holding of an outlet. -/
def State.holding (s : State) (o : Outlet) : Nat :=
  allModules.countP fun m => (s.module m).state.heldBy == some o

/-- R57, R145: whether any module is assigned to the outlet. -/
def State.outletHolds (s : State) (o : Outlet) : Bool :=
  allModules.any fun m => (s.module m).state.assigned == some o

/-- R59: the settle deadline of a STOPPING session is set once, to the settle window from now. -/
def State.setSettleDeadline (s : State) (o : Outlet) : State :=
  match s.slot o with
  | none => s
  | some ses =>
    match ses.state with
    | .stopping reason time none =>
      s.setSlot o (some { ses with
        state := .stopping reason time (some (s.clock.elapsed + s.control.park.settleWindow)) })
    | _ => s

/-- R57, R145: when the outlet holds no module, the Session Table is told so. -/
def State.reportIfEmpty (s : State) (o : Outlet) : State := if s.outletHolds o then s else s.setSettleDeadline o

/-- R145: a module takes a state without an assignment; the outlet it leaves is looked at. -/
def State.unassign (s : State) (m : ModuleNo) (st : ModuleState) : State :=
  match (s.module m).state.assigned with
  | some o => (s.setModuleState m st).reportIfEmpty o
  | none => s.setModuleState m st

/-- R139, R144, R146: a module enters FAULTED: unrouted if it was assigned, the assignment cleared and reported, MODULE_FAULT
raised. -/
def State.faultModule (s : State) (m : ModuleNo) (reason : FaultReason) : State :=
  ((if (s.module m).state.assigned.isSome then s.issue (.unroute m) else s).unassign m (.faulted reason)).raiseModuleFault m

/-- R142, R143: UNROUTE is issued and the module enters OPENING. -/
def State.openModule (s : State) (m : ModuleNo) (o : Outlet) : State :=
  (s.issue (.unroute m)).setModuleState m (.opening o (s.clock.elapsed + s.control.park.switchTimeout))

/-- R141, R142: an ACTIVE module enters DRAINING. -/
def State.drainModule (s : State) (m : ModuleNo) (o : Outlet) : State :=
  s.setModuleState m (.draining o (s.clock.elapsed + s.control.park.drainTime))

/-- R142: an assigned module is released according to its state. -/
def State.releaseModule (s : State) (m : ModuleNo) : State :=
  match (s.module m).state with
  | .switching o d _ => s.setModuleState m (.switching o d true)
  | .warming o _ => s.openModule m o
  | .active o => s.drainModule m o
  | .draining _ _ => s
  | .opening _ _ => s
  | .outOfService => s
  | .free => s
  | .faulted _ => s

/-- R142: one module of an outlet release. -/
def State.releaseIfAssigned (o : Outlet) (s : State) (m : ModuleNo) : State :=
  if (s.module m).state.assigned = some o then s.releaseModule m else s

/-- R142: an outlet release, in ascending module number. -/
def State.outletRelease (s : State) (o : Outlet) : State := allModules.foldl (State.releaseIfAssigned o) s

/-- R137: the lowest-numbered FREE module whose reach includes the outlet. -/
def State.selectModule (s : State) (o : Outlet) : Option ModuleNo :=
  allModules.find? fun m => (s.module m).state == .free && OutletSet.has (s.module m).reach o

/-- R137: a module request for an outlet: ROUTE is issued, or the shortfall is counted. -/
def State.requestModule (s : State) (o : Outlet) : State :=
  match s.selectModule o with
  | some m =>
    (s.setModuleState m (.switching o (s.clock.elapsed + s.control.park.switchTimeout) false)).issue (.route m o)
  | none =>
    { s with pool := { s.pool with shortfalls := s.pool.shortfalls.set o (satAdd s.pool.shortfalls[o] 1) } }

/-! ### Sessions leaving a state -/

/-- R84: a session leaving PARKED with an accrual not yet taken has its parked elapsed time stop short of the multiple; in any
other state nothing changes (log 8). -/
def Session.leaveParked (ses : Session) : Session :=
  match ses.state with
  | .parked => { ses with parkedElapsed := min ses.parkedElapsed (60000 * (ses.minutesAccrued + 1) - 1) }
  | _ => ses

/-- R47: the session in the outlet's slot takes the record given, and the outlet's modules are released. -/
def State.setAndRelease (s : State) (o : Outlet) (ses : Session) : State := (s.setSlot o (some ses)).outletRelease o

/-- R57: the entry into STOPPING: end reason, stop time, outlet release, SESSION_STOPPING, and the settle deadline if the
outlet holds no module. The callers see to it that the session is in ARMED, CHARGING, PARKED or SUSPENDED. -/
def State.enterStopping (s : State) (o : Outlet) (reason : EndReason) : State :=
  match s.slot o with
  | none => s
  | some ses =>
    ((s.setAndRelease o { ses.leaveParked with state := .stopping reason s.clock.parkTime none }).raiseOutlet
      .sessionStopping o).reportIfEmpty o

/-- R53: the slot whose session has a number. -/
def State.findSession (s : State) (number : Nat) : Option Outlet :=
  allOutlets.find? fun o =>
    match s.slot o with
    | some ses => ses.number == number
    | none => false

end Sys2Proof.Machine
end

