-- ==== Sys2Proof/Machine/Flags.lean ====
section
/-! DEFINITION. Every flag the spec computes: the clock flags of live sessions (R29), the flag and presence bytes of records and
views (R173, R174), the kind bytes of notice sets (R175), and the attention lines and other outputs (R164, R18). -/

namespace Sys2Proof.Machine

/-! ### Clock flags, R29 -/

/-- R29: a session is live for the clock flags in every state but CLOSED_WAIT. -/
def SessionState.live : SessionState → Bool
  | .armed _ => true
  | .charging => true
  | .parked => true
  | .suspended _ _ => true
  | .stopping _ _ _ => true
  | .closedWait _ _ => false

/-- R29: the three clock flags. -/
inductive ClockFlag where
  | timeStepped
  | timeSlewed
  | holdoverSeen
deriving DecidableEq, Repr

def Session.setFlag (ses : Session) : ClockFlag → Session
  | .timeStepped => { ses with timeStepped := true }
  | .timeSlewed => { ses with timeSlewed := true }
  | .holdoverSeen => { ses with holdoverSeen := true }

/-- R29: a flag set in one slot's session if it is live. -/
def flagSlot (f : ClockFlag) (slot : Option Session) : Option Session :=
  slot.map fun ses => if ses.state.live then ses.setFlag f else ses

/-- R29: a flag set in every live session. -/
def State.flagLive (s : State) (f : ClockFlag) : State :=
  { s with sessions := { s.sessions with slots := Vector.ofFn fun o => flagSlot f s.sessions.slots[o] } }

/-! ### Flag bytes -/

/-- A byte from its bits, bit 0 first. -/
def byteOfBits (bits : List Bool) : Byte :=
  BitVec.ofNat 8 (bits.foldr (fun b acc => b.toNat + 2 * acc) 0)

/-- R173: the flags byte of a closure record. -/
def ClosureRecord.flagsByte (r : ClosureRecord) : Byte :=
  byteOfBits [r.capped, r.meterDisagree, r.timeStepped, r.timeSlewed, r.holdoverSeen]

/-- R173: the presence byte of a closure record. -/
def ClosureRecord.presenceByte (r : ClosureRecord) : Byte :=
  byteOfBits [r.meterDelta.isSome, r.chargeStart.isSome]

/-- R62: the finished record of a session in CLOSED_WAIT. -/
def SessionState.closure? : SessionState → Option ClosureRecord
  | .closedWait r _ => some r
  | .armed _ => none
  | .charging => none
  | .parked => none
  | .suspended _ _ => none
  | .stopping _ _ _ => none

/-- R40: the arm deadline, present in ARMED only. -/
def SessionState.armDeadline? : SessionState → Option Nat
  | .armed d => some d
  | .charging => none
  | .parked => none
  | .suspended _ _ => none
  | .stopping _ _ _ => none
  | .closedWait _ _ => none

/-- R40: the suspend deadline, present in SUSPENDED only. -/
def SessionState.suspendDeadline? : SessionState → Option Nat
  | .suspended _ d => some d
  | .armed _ => none
  | .charging => none
  | .parked => none
  | .stopping _ _ _ => none
  | .closedWait _ _ => none

/-- R40, R59, R62: the settle deadline, present in STOPPING once set. -/
def SessionState.settleDeadline? : SessionState → Option Nat
  | .stopping _ _ d => d
  | .armed _ => none
  | .charging => none
  | .parked => none
  | .suspended _ _ => none
  | .closedWait _ _ => none

/-- R40: the end reason, present from STOPPING on. -/
def SessionState.endReason? : SessionState → Option EndReason
  | .stopping r _ _ => some r
  | .closedWait c _ => some c.endReason
  | .armed _ => none
  | .charging => none
  | .parked => none
  | .suspended _ _ => none

/-- R40: the stop time, present from STOPPING on. -/
def SessionState.stopTime? : SessionState → Option Nat
  | .stopping _ t _ => some t
  | .closedWait c _ => some c.stopTime
  | .armed _ => none
  | .charging => none
  | .parked => none
  | .suspended _ _ => none

/-- R174: the flags byte of the session view. -/
def Session.flagsByte (ses : Session) : Byte :=
  byteOfBits [(ses.state.closure?.map (·.capped)).getD false, (ses.state.closure?.map (·.meterDisagree)).getD false,
    ses.timeStepped, ses.timeSlewed, ses.holdoverSeen, ses.fundsLowSent]

/-- R174: the presence byte of the session view. -/
def Session.presenceByte (ses : Session) : Byte :=
  byteOfBits [ses.charge.isSome, ses.charge.isSome, ses.charge.isSome, ses.state.stopTime?.isSome,
    ses.state.armDeadline?.isSome, ses.state.suspendDeadline?.isSome, ses.state.settleDeadline?.isSome,
    ses.state.closure?.isSome]

/-! ### Notice sets and outputs -/

/-- R175: the settlement kind byte. -/
def SettlementNotices.kinds (n : SettlementNotices) : Byte :=
  byteOfBits [n.closureReady, n.charging != 0, n.suspended != 0, n.stopping != 0, n.fundsLow != 0, n.strayEnergy != 0]

/-- R175: the site kind byte. -/
def SiteNotices.kinds (n : SiteNotices) : Byte :=
  byteOfBits [n.capExpired, n.moduleFault != 0, n.timeHoldover, n.timeStepped, n.overdraw != 0, n.unreachable != 0,
    n.openingSkipped]

/-- R161: whether a port's set is empty. -/
def State.noticesEmpty (s : State) : PortId → Bool
  | .settlement => s.notices.settlement == .empty
  | .site => s.notices.site == .empty

/-- R164: whether a port's attention line is asserted: a level that follows the set, deasserted while the part is held in
reset. -/
def State.attention (s : State) (p : PortId) : Bool := !s.held && !s.noticesEmpty p

/-- R18, R96, R114: whether the part drives the pedestal line. -/
def State.drivesLine (s : State) : Bool := !s.held && s.line.sending.isSome

end Sys2Proof.Machine
end

