-- ==== Sys2Proof/Machine/Operands.lean ====
section
/-! DEFINITION. Operand forms: request bytes that name an outlet, a plan or a module; configuration items by code and index
(R3, R4, R5, R7); the bands of a WRITE_PLAN payload (R34); the report frame (R100, R176); the partial frames of the byte
receivers (R165). -/

namespace Sys2Proof.Machine

/-- An outlet number in a request; none above 15. -/
def outletOf (b : Byte) : Option Outlet := if h : b.toNat < 16 then some ⟨b.toNat, h⟩ else none

/-- A plan number in a request; none above 7 (R34). -/
def planOf (b : Byte) : Option (Fin 8) := if h : b.toNat < 8 then some ⟨b.toNat, h⟩ else none

/-! ### Configuration items -/

/-- R3: the park items. -/
inductive ParkItem where
  | cyclePeriod | slotLength | moduleRating | auxReserve | siteRamp | fallbackCap | missLimit | resumeLimit
  | armTimeout | settleWindow | guardEnergy | fundsWarning | minimumHold | stepThreshold | filterDepth
  | holdoverTime | releaseHold | switchTimeout | warmUpTime | drainTime
deriving DecidableEq, Repr

/-- R4: the outlet items. -/
inductive OutletItem where
  | present | maximum | minimum | ramp | moduleLimit | pulseWeight | pulseMinWidth
deriving DecidableEq, Repr

/-- R4: the module items. -/
inductive ModuleItem where
  | inService | reach
deriving DecidableEq, Repr

/-- An item at an index. -/
inductive ConfigRef where
  | park (item : ParkItem)
  | outlet (item : OutletItem) (o : Outlet)
  | module (item : ModuleItem) (m : ModuleNo)
deriving DecidableEq, Repr

/-- R3: the codes 0x01 to 0x14. -/
def ParkItem.ofCode : Nat → Option ParkItem
  | 0x01 => some .cyclePeriod
  | 0x02 => some .slotLength
  | 0x03 => some .moduleRating
  | 0x04 => some .auxReserve
  | 0x05 => some .siteRamp
  | 0x06 => some .fallbackCap
  | 0x07 => some .missLimit
  | 0x08 => some .resumeLimit
  | 0x09 => some .armTimeout
  | 0x0A => some .settleWindow
  | 0x0B => some .guardEnergy
  | 0x0C => some .fundsWarning
  | 0x0D => some .minimumHold
  | 0x0E => some .stepThreshold
  | 0x0F => some .filterDepth
  | 0x10 => some .holdoverTime
  | 0x11 => some .releaseHold
  | 0x12 => some .switchTimeout
  | 0x13 => some .warmUpTime
  | 0x14 => some .drainTime
  | _ => none

/-- R4: the codes 0x20 to 0x26. -/
def OutletItem.ofCode : Nat → Option OutletItem
  | 0x20 => some .present
  | 0x21 => some .maximum
  | 0x22 => some .minimum
  | 0x23 => some .ramp
  | 0x24 => some .moduleLimit
  | 0x25 => some .pulseWeight
  | 0x26 => some .pulseMinWidth
  | _ => none

/-- R4: the codes 0x30 and 0x31. -/
def ModuleItem.ofCode : Nat → Option ModuleItem
  | 0x30 => some .inService
  | 0x31 => some .reach
  | _ => none

/-- R5, orders 2 and 3: the item a code and an index name; none for an unknown code or an index outside its scope. -/
def ConfigRef.of (item index : Byte) : Option ConfigRef :=
  match ParkItem.ofCode item.toNat, OutletItem.ofCode item.toNat, ModuleItem.ofCode item.toNat with
  | some i, _, _ => if index = 0 then some (.park i) else none
  | none, some i, _ => (outletOf index).map (.outlet i)
  | none, none, some i => (moduleOfByte index).map (.module i)
  | none, none, none => none

/-- A whole number within a range. -/
def within (lo hi v : Nat) : Bool := decide (lo ≤ v ∧ v ≤ hi)

/-- R3: the ranges and steps of the park items. -/
def ParkItem.inRange (v : Nat) : ParkItem → Bool
  | .cyclePeriod => within 200 2000 v && v % 100 == 0
  | .slotLength => within 2 20 v
  | .moduleRating => within 100 750 v && v % 5 == 0
  | .auxReserve => within 0 2000 v
  | .siteRamp => within 10 40000 v
  | .fallbackCap => within 0 40000 v
  | .missLimit => within 2 20 v
  | .resumeLimit => within 5 300 v
  | .armTimeout => within 30 900 v
  | .settleWindow => within 500 10000 v
  | .guardEnergy => within 0 2000 v
  | .fundsWarning => within 0 20000 v
  | .minimumHold => within 100 999999 v
  | .stepThreshold => within 1000 60000 v
  | .filterDepth => within 0 7 v
  | .holdoverTime => within 60 3600 v
  | .releaseHold => within 1 60 v
  | .switchTimeout => within 50 2000 v
  | .warmUpTime => within 0 10000 v
  | .drainTime => within 100 5000 v

/-- R4: the ranges of the outlet items. -/
def OutletItem.inRange (v : Nat) : OutletItem → Bool
  | .present => within 0 1 v
  | .maximum => within 10 4000 v
  | .minimum => within 10 500 v
  | .ramp => within 10 4000 v
  | .moduleLimit => within 1 10 v
  | .pulseWeight => v == 1 || v == 2 || v == 5 || v == 10
  | .pulseMinWidth => within 2 50 v

/-- R4, R170: the ranges of the module items; a reach is a mask in the low 16 bits. -/
def ModuleItem.inRange (v : Nat) : ModuleItem → Bool
  | .inService => within 0 1 v
  | .reach => within 0 65535 v

/-- R5, order 4. -/
def ConfigRef.inRange (v : Nat) : ConfigRef → Bool
  | .park i => i.inRange v
  | .outlet i _ => i.inRange v
  | .module i _ => i.inRange v

/-- R5, order 5: a park item takes a value. -/
def ParkItems.write (c : ParkItems) (v : Nat) : ParkItem → ParkItems
  | .cyclePeriod => { c with cyclePeriod := v }
  | .slotLength => { c with slotLength := v }
  | .moduleRating => { c with moduleRating := some v }
  | .auxReserve => { c with auxReserve := v }
  | .siteRamp => { c with siteRamp := some v }
  | .fallbackCap => { c with fallbackCap := some v }
  | .missLimit => { c with missLimit := v }
  | .resumeLimit => { c with resumeLimit := v }
  | .armTimeout => { c with armTimeout := v }
  | .settleWindow => { c with settleWindow := v }
  | .guardEnergy => { c with guardEnergy := v }
  | .fundsWarning => { c with fundsWarning := v }
  | .minimumHold => { c with minimumHold := v }
  | .stepThreshold => { c with stepThreshold := v }
  | .filterDepth => { c with filterDepth := v }
  | .holdoverTime => { c with holdoverTime := v }
  | .releaseHold => { c with releaseHold := v }
  | .switchTimeout => { c with switchTimeout := v }
  | .warmUpTime => { c with warmUpTime := v }
  | .drainTime => { c with drainTime := v }

/-- R7: the value of a park item; none for an unset one. -/
def ParkItems.read (c : ParkItems) : ParkItem → Option Nat
  | .cyclePeriod => some c.cyclePeriod
  | .slotLength => some c.slotLength
  | .moduleRating => c.moduleRating
  | .auxReserve => some c.auxReserve
  | .siteRamp => c.siteRamp
  | .fallbackCap => c.fallbackCap
  | .missLimit => some c.missLimit
  | .resumeLimit => some c.resumeLimit
  | .armTimeout => some c.armTimeout
  | .settleWindow => some c.settleWindow
  | .guardEnergy => some c.guardEnergy
  | .fundsWarning => some c.fundsWarning
  | .minimumHold => some c.minimumHold
  | .stepThreshold => some c.stepThreshold
  | .filterDepth => some c.filterDepth
  | .holdoverTime => some c.holdoverTime
  | .releaseHold => some c.releaseHold
  | .switchTimeout => some c.switchTimeout
  | .warmUpTime => some c.warmUpTime
  | .drainTime => some c.drainTime

/-- R5, order 5: an outlet item takes a value; a yes/no item is written 1 for yes (R4). -/
def OutletItems.write (c : OutletItems) (v : Nat) : OutletItem → OutletItems
  | .present => { c with present := v == 1 }
  | .maximum => { c with maximum := some v }
  | .minimum => { c with minimum := some v }
  | .ramp => { c with ramp := some v }
  | .moduleLimit => { c with moduleLimit := v }
  | .pulseWeight => { c with pulseWeight := v }
  | .pulseMinWidth => { c with pulseMinWidth := v }

/-- R7. -/
def OutletItems.read (c : OutletItems) : OutletItem → Option Nat
  | .present => some c.present.toNat
  | .maximum => c.maximum
  | .minimum => c.minimum
  | .ramp => c.ramp
  | .moduleLimit => some c.moduleLimit
  | .pulseWeight => some c.pulseWeight
  | .pulseMinWidth => some c.pulseMinWidth

/-- R5, order 5. -/
def ModuleItems.write (c : ModuleItems) (v : Nat) : ModuleItem → ModuleItems
  | .inService => { c with inService := v == 1 }
  | .reach => { c with reach := BitVec.ofNat 16 v }

/-- R7. -/
def ModuleItems.read (c : ModuleItems) : ModuleItem → Option Nat
  | .inService => some c.inService.toNat
  | .reach => some c.reach.toNat

/-- R5, order 5: the item at that index takes the value. -/
def ModeControl.write (c : ModeControl) (v : Nat) : ConfigRef → ModeControl
  | .park i => { c with park := c.park.write v i }
  | .outlet i o => { c with outlets := c.outlets.set o (c.outlets[o].write v i) }
  | .module i m => { c with modules := c.modules.set m (c.modules[m].write v i) }

/-- R7: the value of the item at that index; none for an unset one. -/
def ModeControl.read (c : ModeControl) : ConfigRef → Option Nat
  | .park i => c.park.read i
  | .outlet i o => c.outlets[o].read i
  | .module i m => c.modules[m].read i

/-! ### Bands, R33 and R34 -/

/-- R169: `n` bands of start minute 2 bytes and price 4 bytes. -/
def bandsOf : Nat → List Byte → List Band
  | 0, _ => []
  | n + 1, bytes => { start := fieldAt bytes 0 2, price := fieldAt bytes 2 4 } :: bandsOf n (bytes.drop 6)

/-- R33: each start strictly greater than the one before it. -/
def startsRise : List Band → Bool
  | [] => true
  | [_] => true
  | a :: b :: rest => decide (a.start < b.start) && startsRise (b :: rest)

/-- R33: a well-formed band list. -/
def bandsWellFormed (bands : List Band) : Bool :=
  within 1 6 bands.length && (bands.head?.map (·.start) == some 0) && startsRise bands &&
    bands.all fun b => decide (b.start ≤ 1439) && decide (b.price ≤ Config.maxPrice)

/-! ### The report frame, R100 and R176 -/

/-- R168: the pedestal state of a code; none for an undefined one. -/
def PedestalState.ofCode : Nat → Option PedestalState
  | 0 => some .empty
  | 1 => some .plugged
  | 2 => some .ready
  | 3 => some .charging
  | 4 => some .complete
  | 5 => some .fault
  | _ => none

/-- R98: the check is right over the 12 characters from the cycle echo through the meter register (R1, R98). -/
def reportCheckOk (body : List Byte) : Bool := body.drop 12 == toBytes 2 (frameCheck (body.take 12))

/-- R100, R176: the fields of a report, powers saturated at 4000.0 kW; none for an undefined pedestal state. The offsets are
those of R176 less the address character. -/
def reportOf (body : List Byte) : Option Report :=
  (PedestalState.ofCode (byteAt body 2).toNat).map fun st =>
    { echo := fieldAt body 0 2
      state := st
      stopPressed := (byteAt body 3).getLsbD 0
      requested := min (fieldAt body 4 2) Config.maxSteps
      measured := min (fieldAt body 6 2) Config.maxSteps
      meter := fieldAt body 8 4 }

/-! ### Byte receivers, R165 -/

/-- R165: one byte at a receiver that hunts for 0xA5. -/
def RxState.feed (rx : RxState) (b : Byte) : RxState :=
  match rx with
  | .hunting => if b = 0xA5#8 then .length else .hunting
  | .length => .body b 0
  | .body len got => if got + 1 = len.toNat + 2 then .hunting else .body len (got + 1)

/-- R165: whether the gap timer runs after some bytes. -/
def RxState.gapRunsAfter (rx : RxState) (received : List Byte) : Bool :=
  received.foldl RxState.feed rx != .hunting

end Sys2Proof.Machine
end

