-- ==== Sys2Proof/Machine/Views.lean ====
section
/-! DEFINITION. The codes of R168 and the byte layouts of everything the part sends: response payloads (R169 to R171, R173 to
R175), responses (R172), the setpoint frame (R176) and cabinet messages (R177). -/

namespace Sys2Proof.Machine

/-! ### Codes, R168 -/

def Status.code : Status → Byte
  | .ok => 0x00
  | .already => 0x01
  | .empty => 0x02
  | .badFrame => 0x03
  | .unknownRequest => 0x04
  | .badValue => 0x05
  | .wrongMode => 0x06
  | .outletBusy => 0x07
  | .outletDown => 0x08
  | .noTime => 0x09
  | .badPlan => 0x0A
  | .lowHold => 0x0B
  | .overLimit => 0x0C
  | .tooLate => 0x0D
  | .unknownSession => 0x0E
  | .mismatch => 0x0F
  | .liveSessions => 0x10
  | .modulesMoving => 0x11
  | .invalidConfig => 0x12
  | .faultPresent => 0x13

def ParkMode.code : ParkMode → Byte
  | .maintenance => 0
  | .operating => 1

def SyncState.code : SyncState → Byte
  | .unsynced => 0
  | .synced => 1
  | .holdover => 2

def SessionState.code : SessionState → Byte
  | .armed _ => 0
  | .charging => 1
  | .parked => 2
  | .suspended _ _ => 3
  | .stopping _ _ _ => 4
  | .closedWait _ _ => 5

/-- R174: suspended-from, 0xFF when absent. -/
def SessionState.suspendedFromCode : SessionState → Byte
  | .suspended .charging _ => 1
  | .suspended .parked _ => 2
  | .armed _ => 0xFF
  | .charging => 0xFF
  | .parked => 0xFF
  | .stopping _ _ _ => 0xFF
  | .closedWait _ _ => 0xFF

def EndReason.code : EndReason → Byte
  | .user => 0
  | .operator => 1
  | .funds => 2
  | .unplug => 3
  | .pedestalFault => 4
  | .linkLost => 5
  | .noStart => 6
  | .overdraw => 7

def LinkState.code : LinkState → Byte
  | .unknown => 0
  | .online => 1
  | .unreachable => 2

def Admission.code : Admission → Byte
  | .none => 0
  | .admitted => 1
  | .queued => 2

def ModuleState.code : ModuleState → Byte
  | .outOfService => 0
  | .free => 1
  | .switching _ _ _ => 2
  | .warming _ _ => 3
  | .active _ => 4
  | .draining _ _ => 5
  | .opening _ _ => 6
  | .faulted _ => 7

def Indication.code : Indication → Byte
  | .none => 0
  | .faultOn => 1
  | .faultOff => 2

/-- R168, R170: the fault reason, 0xFF when absent. -/
def ModuleState.reasonCode : ModuleState → Byte
  | .faulted .cabinetFault => 0
  | .faulted .confirmTimeout => 1
  | .faulted .routeMismatch => 2
  | .outOfService => 0xFF
  | .free => 0xFF
  | .switching _ _ _ => 0xFF
  | .warming _ _ => 0xFF
  | .active _ => 0xFF
  | .draining _ _ => 0xFF
  | .opening _ _ => 0xFF

/-! ### Frames the part sends -/

/-- R172: a response on the line. -/
def Response.bytes (r : Response) : List Byte :=
  0x5A :: withCheck (BitVec.ofNat 8 (r.payload.length + 2) :: r.code :: r.status.code :: r.payload)

/-- R177: a message to the cabinet. -/
def CabinetMsg.bytes : CabinetMsg → List Byte
  | .route m o => 0xA5 :: withCheck [3, 0x01, BitVec.ofNat 8 m.val, BitVec.ofNat 8 o.val]
  | .unroute m => 0xA5 :: withCheck [2, 0x02, BitVec.ofNat 8 m.val]

/-! ### Response payloads -/

/-- R23, R169: READ_STATUS. R168 has no code for the slewing flag: 1 for set and 0 for clear are the model's choice (log 21). -/
def State.statusPayload (s : State) : List Byte :=
  [s.control.mode.code, s.clock.sync.code, BitVec.ofNat 8 s.clock.slewing.toNat] ++ toBytes 6 s.clock.parkTime ++
    toBytesInt 2 s.clock.trim

/-- R175: the settlement notice layout. -/
def SettlementNotices.payload (n : SettlementNotices) : List Byte :=
  n.kinds :: toBytes 2 n.charging.toNat ++ toBytes 2 n.suspended.toNat ++ toBytes 2 n.stopping.toNat ++
    toBytes 2 n.fundsLow.toNat ++ toBytes 2 n.strayEnergy.toNat

/-- R175: the site notice layout. -/
def SiteNotices.payload (n : SiteNotices) : List Byte :=
  n.kinds :: toBytes 4 n.moduleFault.toNat ++ toBytes 2 n.overdraw.toNat ++ toBytes 2 n.unreachable.toNat

/-- R36, R169: READ_PLAN. R168 has no code for the valid flag: 1 for valid and 0 for invalid are the model's choice (log 21). -/
def Plan.payload (p : Plan) : List Byte :=
  BitVec.ofNat 8 p.valid.toNat :: toBytes 4 p.sessionFee ++ toBytes 4 p.idleFee ++ toBytes 1 p.grace ++
    toBytes 1 p.bands.length ++ p.bands.flatMap fun b => toBytes 2 b.start ++ toBytes 4 b.price

/-- R173: one band of a record: start minute, price, subtotal. -/
def ClosedBand.bytes (b : ClosedBand) : List Byte := toBytes 2 b.start ++ toBytes 4 b.price ++ toBytes 4 b.subtotal

/-- R173: the closure record. -/
def ClosureRecord.bytes (r : ClosureRecord) : List Byte :=
  toBytes 4 r.number ++ toBytes 1 r.outlet.val ++ r.paymentRef.toList ++ toBytes 1 r.cls ++ toBytes 4 r.hold ++
    toBytes 4 r.billed ++ toBytes 8 r.accrued ++ toBytes 8 r.overrun ++ toBytes 4 r.feeCharged ++
    toBytes 8 r.energyCharge ++ toBytes 2 r.energyRemainder ++ toBytes 8 r.idleCharge ++ toBytes 4 r.idleMinutes ++
    toBytes 4 r.pulseEnergy ++ toBytes 4 (r.meterDelta.getD 0) ++ toBytes 6 r.armTime ++
    toBytes 6 (r.chargeStart.getD 0) ++ toBytes 6 r.stopTime ++ toBytes 6 r.closureTime ++
    [r.endReason.code, r.flagsByte, r.presenceByte] ++ toBytes 1 r.plan ++ toBytes 4 r.sessionFee ++
    toBytes 4 r.idleFee ++ toBytes 1 r.grace ++ toBytes 1 r.bands.length ++ r.bands.flatMap ClosedBand.bytes

/-- R174: the milliseconds remaining until a deadline, 0 once it has passed; an absent one is sent as 0. -/
def remaining (elapsed : Nat) (deadline : Option Nat) : Nat := deadline.getD 0 - elapsed

/-- R174: the session view of the session in an outlet's slot. -/
def Session.view (ses : Session) (o : Outlet) (elapsed : Nat) : List Byte :=
  toBytes 4 ses.number ++ toBytes 1 o.val ++
    [ses.state.code, ses.state.suspendedFromCode, (ses.state.endReason?.map EndReason.code).getD 0xFF] ++
    ses.paymentRef.toList ++ toBytes 1 ses.cls ++ toBytes 4 ses.hold ++
    toBytes 4 ((ses.charge.map (·.stamp)).getD 0) ++ toBytes 4 ses.feeCharged ++ toBytes 8 ses.energyCharge ++
    toBytes 2 ses.energyRemainder ++ toBytes 8 ses.idleCharge ++ toBytes 4 ses.idleMinutes ++
    toBytes 4 ses.pulseEnergy ++ toBytes 6 ses.parkedElapsed ++
    toBytes 4 ((ses.charge.map (·.meterStart)).getD 0) ++ toBytes 4 ((ses.charge.map (·.lastMeter)).getD 0) ++
    toBytes 6 ses.armTime ++ toBytes 6 ((ses.charge.map (·.startTime)).getD 0) ++
    toBytes 6 (ses.state.stopTime?.getD 0) ++ toBytes 4 (remaining elapsed ses.state.armDeadline?) ++
    toBytes 4 (remaining elapsed ses.state.suspendDeadline?) ++
    toBytes 4 (remaining elapsed ses.state.settleDeadline?) ++
    toBytes 4 ((ses.state.closure?.map (·.billed)).getD 0) ++
    toBytes 8 ((ses.state.closure?.map (·.overrun)).getD 0) ++ [ses.flagsByte, ses.presenceByte] ++
    toBytes 1 ses.tariff.plan ++ toBytes 4 ses.tariff.sessionFee ++ toBytes 4 ses.tariff.idleFee ++
    toBytes 1 ses.tariff.grace ++ toBytes 1 ses.tariff.bands.length ++
    (ses.tariff.bands.zip ses.bandSubtotals).flatMap fun b =>
      toBytes 2 b.1.start ++ toBytes 4 b.1.price ++ toBytes 4 b.2

/-- R120: a module is healthy: in FREE through OPENING and not marked leaving service. -/
def Module.healthy (m : Module) : Bool :=
  !m.leaving &&
    match m.state with
    | .free => true
    | .switching _ _ _ => true
    | .warming _ _ => true
    | .active _ => true
    | .draining _ _ => true
    | .opening _ _ => true
    | .outOfService => false
    | .faulted _ => false

/-- R120: the module rating; 0 while it is unset (R134). -/
def State.rating (s : State) : Nat := s.control.park.moduleRating.getD 0

/-- R120: the pool capacity. -/
def State.poolCapacity (s : State) : Nat := s.rating * allModules.countP fun m => (s.module m).healthy

/-- R134: the sum of the grants of the last dispatch. -/
def State.sumOfGrants (s : State) : Nat := (allOutlets.map fun o => (s.record o).grant).sum

/-- R134: the sum of the measured powers of the HELD reports of the present outlets. -/
def State.sumOfMeasured (s : State) : Nat :=
  (allOutlets.map fun o =>
    if s.present o then (((s.exchange o).heldReport).map (·.measured)).getD 0 else 0).sum

/-- R134, R170: READ_SITE. R134 says 0 only of no target: that the validity remaining of a target whose expiry has passed and has not
been served reads 0 is the model's choice (log 23). -/
def State.sitePayload (s : State) : List Byte :=
  toBytes 2 ((s.dispatcher.capTarget.map (·.cap)).getD 0xFFFF) ++
    toBytes 4 ((s.dispatcher.capTarget.map fun t => t.expiry - s.clock.elapsed).getD 0) ++
    toBytes 2 s.dispatcher.effectiveCap ++ toBytes 2 s.dispatcher.available ++ toBytes 2 s.poolCapacity ++
    toBytes 2 s.sumOfGrants ++ toBytes 4 s.sumOfMeasured ++ (allModules.map fun m => (s.module m).state.code) ++
    allModules.map fun m => (s.module m).state.reasonCode

/-- R133: how many modules are assigned to an outlet in the state with a code. -/
def State.countInState (s : State) (o : Outlet) (code : Byte) : Nat :=
  allModules.countP fun m => (s.module m).state.assigned == some o && (s.module m).state.code == code

/-- R133, R170: READ_OUTLET. -/
def State.outletPayload (s : State) (o : Outlet) : List Byte :=
  toBytes 2 (s.record o).demand ++ toBytes 2 (s.record o).ceiling ++ toBytes 2 (s.record o).minimum ++
    toBytes 2 (s.record o).grant ++ [(s.record o).admission.code] ++ toBytes 1 (s.record o).excess ++
    toBytes 2 (s.link o).published ++
    [(2 : Byte), 3, 4, 5, 6].flatMap (fun code => toBytes 1 (s.countInState o code)) ++
    toBytes 4 s.pool.shortfalls[o] ++ toBytes 1 (s.link o).miss ++ [(s.link o).link.code]

/-- R171: one outlet entry of a part. -/
def OutletCounters.bytes (c : OutletCounters) : List Byte :=
  toBytes 4 c.pulses ++ toBytes 4 c.runts ++ toBytes 4 c.stray ++ toBytes 1 c.overdraw ++ toBytes 4 c.discards ++
    toBytes 4 c.shortfall

/-- R171: four outlets' entries, from an outlet on. -/
def Snapshot.fourOutlets (n : Snapshot) (a b c d : Outlet) : List Byte :=
  n.outlets[a].bytes ++ n.outlets[b].bytes ++ n.outlets[c].bytes ++ n.outlets[d].bytes

/-- R171: the contents of a part; a part above 3 has none. -/
def Snapshot.part (n : Snapshot) : Nat → List Byte
  | 0 =>
    toBytes 4 n.lineErrors ++ toBytes 4 n.gapErrors ++ toBytes 4 n.unaddressed ++ toBytes 4 n.openingsSkipped ++
      toBytes 4 n.cabinetFrameErrors ++ toBytes 4 n.unusable ++ toBytes 4 n.unexpectedConfirms ++
      toBytes 4 n.settlementGaps ++ toBytes 4 n.settlementOverruns ++ toBytes 4 n.siteGaps ++
      toBytes 4 n.siteOverruns ++ n.fourOutlets 0 1 2 3
  | 1 => n.fourOutlets 4 5 6 7
  | 2 => n.fourOutlets 8 9 10 11
  | 3 => n.fourOutlets 12 13 14 15
  | _ => []

/-! ### The setpoint frame, R111 to R113 and R176 -/

/-- R112: the setpoint commands, with their codes (R168). -/
inductive Command where
  | idle
  | wait
  | run
  | stop
deriving DecidableEq, Repr

def Command.code : Command → Byte
  | .idle => 0
  | .wait => 1
  | .run => 2
  | .stop => 3

/-- R112: the command of an outlet's entry. -/
def State.command (s : State) (o : Outlet) : Command :=
  if s.present o then
    match s.slot o with
    | none => .idle
    | some ses =>
      match ses.state with
      | .armed _ => .wait
      | .parked => .wait
      | .suspended _ _ => .wait
      | .charging => if (s.record o).admission = .admitted then .run else .wait
      | .stopping _ _ _ => .stop
      | .closedWait _ _ => .idle
  else .idle

/-- R111: the ACTIVE module count of an outlet's entry; 0 for an outlet that is not present (R16). -/
def State.activeCount (s : State) (o : Outlet) : Nat :=
  if s.present o then allModules.countP fun m => (s.module m).state == .active o else 0

/-- R113: the setpoint of an outlet's entry. -/
def State.setpoint (s : State) (o : Outlet) : Nat :=
  match s.command o with
  | .run => min (s.record o).grant (s.activeCount o * s.rating)
  | .idle => 0
  | .wait => 0
  | .stop => 0

/-- R176: one entry. -/
def State.entryBytes (s : State) (o : Outlet) : List Byte :=
  toBytes 2 (s.setpoint o) ++ [(s.command o).code] ++ toBytes 1 (s.activeCount o)

/-- R96, R114: a data character. -/
def LineChar.ofData (b : Byte) : LineChar := { mark := false, data := b }

/-- R96, R114: an address character. -/
def LineChar.ofAddress (b : Byte) : LineChar := { mark := true, data := b }

/-- R111, R114, R176: the 69 characters of the setpoint frame that carries a cycle number: the address character, and 68 data
characters. -/
def State.setpointFrame (s : State) (cycle : Nat) : List LineChar :=
  .ofAddress 0x1F :: (withCheck (toBytes 2 cycle ++ allOutlets.flatMap s.entryBytes)).map .ofData

end Sys2Proof.Machine
end

