-- ==== Sys2Proof/Machine/Closures.lean ====
section
/-! DEFINITION. The Closure Queue and the notice requests (09_closure_queue_and_notices.md): PEEK_CLOSURE, RELEASE_CLOSURE with the
admission of a waiting session, SWAP_NOTICES. -/

namespace Sys2Proof.Machine

/-- R157: a waiting session: its outlet, entry stamp and record. -/
structure Waiter where
  outlet : Outlet
  stamp : Nat
  closure : ClosureRecord
deriving DecidableEq, Repr

/-- R157: the waiting set, in ascending outlet number. -/
def State.waiters (s : State) : List Waiter :=
  allOutlets.filterMap fun o =>
    match s.slot o with
    | none => none
    | some ses =>
      match ses.state with
      | .closedWait r stamp => some { outlet := o, stamp := stamp, closure := r }
      | _ => none

/-- R157: the first of the waiting set: the least entry stamp, and of equal stamps the one found first. -/
def firstWaiter : List Waiter → Option Waiter
  | [] => none
  | w :: rest =>
    match firstWaiter rest with
    | none => some w
    | some v => if w.stamp ≤ v.stamp then some w else some v

/-- R160: after a removal the first waiting session's record is appended and its slot becomes VACANT. -/
def State.admitWaiter (s : State) : State :=
  match firstWaiter s.waiters with
  | none => s
  | some w =>
    (({ s with closures := s.closures ++ [w.closure] } : State).raise .closureReady).setSlot w.outlet none

/-- R158: PEEK_CLOSURE. -/
def State.answerPeek (s : State) : Answer :=
  match s.closures with
  | [] => s.answer .empty
  | r :: _ => s.answer .ok (toBytes 1 s.closures.length ++ r.bytes)

/-- R159: RELEASE_CLOSURE, its conditions in order. -/
def State.answerRelease (s : State) (number : Nat) : Answer :=
  match s.closures with
  | [] => s.answer .empty
  | r :: rest =>
    if number = r.number then
      let t := ({ s with closures := rest } : State).admitWaiter
      t.answer .ok (toBytes 1 t.closures.length)
    else s.answer .mismatch (toBytes 4 r.number)

/-- R163: SWAP_NOTICES on a port: its set is handed over and emptied. -/
def State.answerSwap (s : State) : PortId → Answer
  | .settlement =>
    ({ s with notices := { s.notices with settlement := .empty } } : State).answer .ok s.notices.settlement.payload
  | .site => ({ s with notices := { s.notices with site := .empty } } : State).answer .ok s.notices.site.payload

/-- PEEK_CLOSURE, R158. -/
def execPeekClosure (s : State) : Host.Outcome State Fault Refusal := s.request .settlement 0x14 State.answerPeek

/-- RELEASE_CLOSURE, R159 and R160. -/
def execReleaseClosure (number : BitVec 32) (s : State) : Host.Outcome State Fault Refusal :=
  s.request .settlement 0x15 fun s => s.answerRelease number.toNat

/-- SWAP_NOTICES, R163 and R164. -/
def execSwapNotices (port : PortId) (s : State) : Host.Outcome State Fault Refusal :=
  s.request port 0x02 fun s => s.answerSwap port

end Sys2Proof.Machine
end

