-- ==== Sys2Proof/Machine/Charge.lean ====
section
/-! DEFINITION. The Charge Unit (05_charges_funds_and_the_billed_amount.md): pricing, headroom, the funds guard, the funds power
limit, the billed amount; and the band in force (R37). -/

namespace Sys2Proof.Machine

/-- R20: the minute of day. -/
def minuteOfDay (parkTime : Nat) : Nat := parkTime / 60000 % 1440

/-- R37: the last band, with its index, whose start is not greater than a minute; `best` is the last one found so far. -/
def lastBandFrom (minute : Nat) : List Band → Nat → Nat × Nat → Nat × Nat
  | [], _, best => best
  | b :: rest, i, best => lastBandFrom minute rest (i + 1) (if b.start ≤ minute then (i, b.price) else best)

/-- R37: the index and the price of the band in force at a park time. -/
def bandInForce (bands : List Band) (parkTime : Nat) : Nat × Nat :=
  lastBandFrom (minuteOfDay parkTime) bands 0 (0, 0)

/-- R85: the accrued total A_fu. -/
def Session.accrued (ses : Session) : Nat := ses.feeCharged + ses.energyCharge + ses.idleCharge

/-- R86: the guard price. -/
def Session.guardPrice (ses : Session) (parkTime : Nat) : Nat :=
  max (bandInForce ses.tariff.bands parkTime).2 (bandInForce ses.tariff.bands (parkTime + 60000)).2

/-- R87: the monetary headroom H_fu. -/
def Session.headroom (ses : Session) : Nat := ses.hold * 1000 - ses.accrued

/-- R87: the energy headroom E_head. -/
def Session.energyHeadroom (ses : Session) (parkTime : Nat) : Nat :=
  if ses.guardPrice parkTime = 0 then max32
  else min (ses.headroom * 1000 / ses.guardPrice parkTime) max32

/-- R89: whether the funds guard stops the session. -/
def Session.fundsStop (ses : Session) (parkTime guardEnergy : Nat) : Bool :=
  match ses.state with
  | .charging => decide (ses.energyHeadroom parkTime ≤ guardEnergy)
  | .parked => decide (ses.headroom = 0)
  | .armed _ => false
  | .suspended _ _ => false
  | .stopping _ _ _ => false
  | .closedWait _ _ => false

/-- R88: whether the session is one the guard evaluates. -/
def SessionState.evaluated : SessionState → Bool
  | .closedWait _ _ => false
  | .armed _ => true
  | .charging => true
  | .parked => true
  | .suspended _ _ => true
  | .stopping _ _ _ => true

/-- R90: FUNDS_LOW is raised and FUNDS_LOW_SENT set. -/
def State.sendFundsLow (s : State) (o : Outlet) : State :=
  match s.slot o with
  | none => s
  | some ses => (s.setSlot o (some { ses with fundsLowSent := true })).raiseOutlet .fundsLow o

/-- R88 to R90: one evaluation of the funds guard of the session in a slot. -/
def State.evaluateFunds (s : State) (o : Outlet) : State :=
  match s.slot o with
  | none => s
  | some ses =>
    if ses.state.evaluated then
      let stopped :=
        if ses.fundsStop s.clock.parkTime s.control.park.guardEnergy then s.enterStopping o .funds else s
      if ses.energyHeadroom s.clock.parkTime ≤ s.control.park.fundsWarning ∧ ses.fundsLowSent = false then
        stopped.sendFundsLow o
      else stopped
    else s

/-- R91: the evaluation that follows an accepted TOPUP. -/
def State.evaluateTopup (s : State) (o : Outlet) : State :=
  match s.slot o with
  | none => s
  | some ses =>
    if s.control.park.fundsWarning < ses.energyHeadroom s.clock.parkTime then
      let t := s.evaluateFunds o
      match t.slot o with
      | none => t
      | some after => t.setSlot o (some { after with fundsLowSent := false })
    else s.evaluateFunds o

/-- R92: the funds power limit, in steps. -/
def Session.fundsLimit (ses : Session) (parkTime guardEnergy cyclePeriod : Nat) : Nat :=
  if ses.energyHeadroom parkTime ≤ guardEnergy then 0
  else min ((ses.energyHeadroom parkTime - guardEnergy) * 36000 / cyclePeriod) Config.maxSteps

/-- R70, step 2: one entry of a list raised. -/
def addAt : List Nat → Nat → Nat → List Nat
  | [], _, _ => []
  | x :: rest, 0, n => (x + n) :: rest
  | x :: rest, i + 1, n => x :: addAt rest i n

/-- R70, steps 1 to 3, and R81: a pulse of weight `w` with a park time billed into the record. -/
def Session.bill (ses : Session) (w stamp : Nat) : Session :=
  let band := bandInForce ses.tariff.bands stamp
  let sum := ses.energyRemainder + w * band.2
  { ses with
    pulseEnergy := ses.pulseEnergy + w
    bandSubtotals := addAt ses.bandSubtotals band.1 w
    energyCharge := ses.energyCharge + sum / 1000
    energyRemainder := sum % 1000 }

/-- R93: the accrued total to the nearest minor unit. -/
def Session.rounded (ses : Session) : Nat := (ses.accrued + 500) / 1000

/-- R93. -/
def Session.billed (ses : Session) : Nat := min ses.hold ses.rounded

/-- R93. -/
def Session.overrun (ses : Session) : Nat := ses.accrued - ses.hold * 1000

/-- R93. -/
def Session.capped (ses : Session) : Bool := decide (ses.hold < ses.rounded)

/-- R78: the meter delta; absent without a meter start. -/
def Session.meterDelta (ses : Session) : Option Nat :=
  ses.charge.map fun c => (c.lastMeter + 4294967296 - c.meterStart) % 4294967296

/-- R78: METER_DISAGREE. -/
def Session.meterDisagree (ses : Session) : Bool :=
  match ses.meterDelta with
  | none => false
  | some d => decide (max 20 (ses.pulseEnergy / 100) < ((d : Int) - (ses.pulseEnergy : Int)).natAbs)

/-- R154: the bands of a copy with their subtotals. -/
def closedBands : List Band → List Nat → List ClosedBand
  | b :: bs, n :: ns => { start := b.start, price := b.price, subtotal := n } :: closedBands bs ns
  | b :: bs, [] => { start := b.start, price := b.price, subtotal := 0 } :: closedBands bs []
  | [], _ => []

/-- R61, steps 1 to 4, and R154: the closure record of a session that stopped for a reason at a park time. -/
def Session.close (ses : Session) (o : Outlet) (reason : EndReason) (stopTime closureTime : Nat) : ClosureRecord :=
  { number := ses.number
    outlet := o
    paymentRef := ses.paymentRef
    cls := ses.cls
    hold := ses.hold
    billed := ses.billed
    accrued := ses.accrued
    overrun := ses.overrun
    feeCharged := ses.feeCharged
    energyCharge := ses.energyCharge
    energyRemainder := ses.energyRemainder
    idleCharge := ses.idleCharge
    idleMinutes := ses.idleMinutes
    pulseEnergy := ses.pulseEnergy
    plan := ses.tariff.plan
    sessionFee := ses.tariff.sessionFee
    idleFee := ses.tariff.idleFee
    grace := ses.tariff.grace
    bands := closedBands ses.tariff.bands ses.bandSubtotals
    meterDelta := ses.meterDelta
    armTime := ses.armTime
    chargeStart := ses.charge.map (·.startTime)
    stopTime := stopTime
    closureTime := closureTime
    endReason := reason
    capped := ses.capped
    meterDisagree := ses.meterDisagree
    timeStepped := ses.timeStepped
    timeSlewed := ses.timeSlewed
    holdoverSeen := ses.holdoverSeen }

end Sys2Proof.Machine
end

