-- ==== Sys2Proof/Machine/Dispatcher.lean ====
section
/-! DEFINITION. The Dispatcher (07_dispatch.md): SET_CAP, TARGET_EXPIRY, READ_SITE, READ_OUTLET, and stages 2 to 8 of a cycle expiry
(R119): funds evaluation, cap, ceilings, service order, admission, sharing, module requests and releases. -/

namespace Sys2Proof.Machine

/-! ### The cap target -/

/-- R116: SET_CAP. -/
def State.answerSetCap (s : State) (cap validity : Nat) : Answer :=
  let c := min cap Config.maxSteps
  let v := max 1 (min validity 3600)
  ({ s with dispatcher := { s.dispatcher with
      capTarget := some { cap := c, expiry := s.clock.elapsed + v * 1000 } } } : State).answer .ok
    (toBytes 2 c ++ toBytes 2 v)

/-- R117: the target expiry passes. -/
def State.targetExpiry (s : State) : State :=
  match s.dispatcher.capTarget with
  | some t =>
    if t.expiry ≤ s.clock.elapsed then
      ({ s with dispatcher := { s.dispatcher with capTarget := none } } : State).raise .capExpired
    else s
  | none => s

/-! ### Stage 2: funds evaluation, R88 -/

/-- R88, R119: every session evaluated. Neither gives an order: ascending outlet number is the model's choice (log 22). -/
def State.fundsStage (s : State) : State := allOutlets.foldl State.evaluateFunds s

/-! ### Stage 3: cap and available power, R118 and R120 -/

/-- R118: the target in force; the fallback cap is always set in OPERATING (R10, check 1). -/
def State.targetInForce (s : State) : Nat :=
  match s.dispatcher.capTarget with
  | some t => t.cap
  | none => s.control.park.fallbackCap.getD 0

/-- R118: the effective cap formed from a target and the previous effective cap. -/
def formCap (target previous ramp : Nat) : Nat := if target ≤ previous then target else min target (previous + ramp)

/-- R120: A from the effective cap, the pool capacity and the auxiliary reserve. -/
def availablePower (cap capacity reserve : Nat) : Nat := min cap capacity - reserve

def State.capStage (s : State) : State :=
  let cap := formCap s.targetInForce s.dispatcher.effectiveCap (s.control.park.siteRamp.getD 0)
  { s with dispatcher := { s.dispatcher with
      effectiveCap := cap
      available := availablePower cap s.poolCapacity s.control.park.auxReserve } }

/-! ### Stage 4: ceilings and minimums, R121 to R123 -/

/-- The session in CHARGING in a slot, if there is one. -/
def State.chargingSession (s : State) (o : Outlet) : Option Session :=
  match s.slot o with
  | none => none
  | some ses => if ses.state = .charging then some ses else none

/-- R121: the reach capacity. -/
def State.reachCapacity (s : State) (o : Outlet) : Nat :=
  s.rating * allModules.countP fun m => (s.module m).healthy && OutletSet.has (s.module m).reach o

/-- R122, R123: the demand: the requested power of the HELD report. -/
def State.demand (s : State) (o : Outlet) : Nat := ((s.exchange o).heldReport.map (·.requested)).getD 0

/-- R122: the ceiling: the smallest of the six terms. -/
def State.ceiling (s : State) (o : Outlet) (ses : Session) : Nat :=
  let c := s.outletItems o
  let p := s.control.park
  min (s.demand o) (min (c.maximum.getD 0) (min (c.moduleLimit * s.rating) (min (s.reachCapacity o)
    (min (ses.fundsLimit s.clock.parkTime p.guardEnergy p.cyclePeriod) ((s.link o).published + c.ramp.getD 0)))))

/-- R123: the dispatch record as stage 4 writes it; the admission outcome and grant of a charging session follow in stages 5 and
6, its excess counter in stage 8. -/
def State.ceilingRecord (s : State) (o : Outlet) : DispatchRecord :=
  match s.chargingSession o with
  | some ses =>
    { s.record o with
      demand := s.demand o
      ceiling := s.ceiling o ses
      minimum := min ((s.outletItems o).minimum.getD 0) (s.ceiling o ses) }
  | none => if s.present o then { DispatchRecord.starting with demand := s.demand o } else s.record o

def State.ceilingStage (s : State) : State :=
  { s with dispatcher := { s.dispatcher with records := Vector.ofFn fun o => s.ceilingRecord o } }

/-! ### Stage 5: service order and admission, R124 and R125 -/

/-- A charging session as the stages 5 to 8 see it. -/
structure Claim where
  outlet : Outlet
  cls : Nat
  stamp : Nat
  ceiling : Nat
  minimum : Nat
deriving DecidableEq, Repr

/-- R124: whether one claim stands before another: class descending, queue stamp ascending; equal stamps stand as they
were, which is in ascending outlet number. -/
def Claim.before (a b : Claim) : Bool := decide (b.cls < a.cls ∨ (b.cls = a.cls ∧ a.stamp ≤ b.stamp))

/-- Insertion keeping the order of equals. -/
def insertBy {α : Type} (before : α → α → Bool) (x : α) : List α → List α
  | [] => [x]
  | y :: rest => if before x y then x :: y :: rest else y :: insertBy before x rest

/-- A stable sort. -/
def sortBy {α : Type} (before : α → α → Bool) (l : List α) : List α := l.foldr (insertBy before) []

def State.claim (s : State) (o : Outlet) : Option Claim :=
  (s.chargingSession o).map fun ses =>
    { outlet := o, cls := ses.cls, stamp := (ses.charge.map (·.stamp)).getD 0,
      ceiling := (s.record o).ceiling, minimum := (s.record o).minimum }

/-- R124: the service order. -/
def State.serviceOrder (s : State) : List Claim := sortBy Claim.before (allOutlets.filterMap s.claim)

/-- R125: the admitted claims: the walk from the head with its running sum, up to the first that does not fit. -/
def admitClaims (available : Nat) : Nat → List Claim → List Claim
  | _, [] => []
  | sum, c :: rest => if sum + c.minimum ≤ available then c :: admitClaims available (sum + c.minimum) rest else []

/-! ### Stage 6: sharing, R126 and R127 -/

/-- R126: the room of a claim. -/
def Claim.room (c : Claim) : Nat := c.ceiling - c.minimum

/-- R126, step 1. -/
def Claim.roomBefore (a b : Claim) : Bool := decide (a.room ≤ b.room)

/-- R126, steps 2 to 5: the amounts shared among the claims of one class, least room first, and what the class ends with. -/
def shareOut : List Claim → Nat → List (Outlet × Nat) × Nat
  | [], e => ([], e)
  | c :: rest, e =>
    let share := e / (rest.length + 1)
    if c.room ≤ share then
      let later := shareOut rest (e - c.room)
      ((c.outlet, c.room) :: later.1, later.2)
    else ((c :: rest).map fun d => (d.outlet, share), e - (rest.length + 1) * share)

/-- R126: one class, from the amount carried into it. -/
def shareClass (admitted : List Claim) (cls e : Nat) : List (Outlet × Nat) × Nat :=
  shareOut (sortBy Claim.roomBefore (admitted.filter fun c => c.cls == cls)) e

/-- R126: the amounts shared, class 2 first, then 1, then 0. -/
def shares (admitted : List Claim) (e : Nat) : List (Outlet × Nat) :=
  let c2 := shareClass admitted 2 e
  let c1 := shareClass admitted 1 c2.2
  let c0 := shareClass admitted 0 c1.2
  c2.1 ++ c1.1 ++ c0.1

/-- The amount a list gives an outlet. -/
def amountFor (l : List (Outlet × Nat)) (o : Outlet) : Nat := ((l.find? fun p => p.1 == o).map (·.2)).getD 0

/-- R125, R127: the admission outcome and grant written into a charging session's record. -/
def State.grantRecord (s : State) (admitted : List Claim) (given : List (Outlet × Nat)) (o : Outlet) : DispatchRecord :=
  if (s.chargingSession o).isSome then
    if admitted.any fun c => c.outlet == o then
      { s.record o with admission := .admitted, grant := (s.record o).minimum + amountFor given o }
    else { s.record o with admission := .queued, grant := 0 }
  else s.record o

/-- R125 to R127: stages 5 and 6. -/
def State.grantStage (s : State) : State :=
  let admitted := admitClaims s.dispatcher.available 0 s.serviceOrder
  let given := shares admitted (s.dispatcher.available - (admitted.map (·.minimum)).sum)
  { s with dispatcher := { s.dispatcher with records := Vector.ofFn fun o => s.grantRecord admitted given o } }

/-! ### Stage 7: module targets and requests, R128 and R129 -/

/-- R128: the module target of an outlet's grant. -/
def State.moduleTarget (s : State) (o : Outlet) : Nat := ((s.record o).grant + s.rating - 1) / s.rating

/-- R129: some requests for one outlet, one after another. -/
def State.requestMany (o : Outlet) : Nat → State → State
  | 0, s => s
  | n + 1, s => State.requestMany o n (s.requestModule o)

/-- R129: the requests of one outlet. -/
def State.requestFor (s : State) (c : Claim) : State :=
  let h := s.holding c.outlet
  State.requestMany c.outlet
    (min (s.moduleTarget c.outlet - h) ((s.outletItems c.outlet).moduleLimit - h)) s

/-! ### Stage 8: excess and releases, R130 and R131 -/

/-- R131: the highest-numbered ACTIVE module assigned to an outlet. -/
def State.highestActive (s : State) (o : Outlet) : Option ModuleNo :=
  allModules.reverse.find? fun m => (s.module m).state == .active o

/-- R130: the excess counter of an outlet after stage 8's count. -/
def State.countedExcess (s : State) (o : Outlet) : Nat :=
  if s.moduleTarget o < s.holding o then min 255 ((s.record o).excess + 1) else 0

/-- R130, R131: the count, and the single release when it is due. -/
def State.excessFor (s : State) (c : Claim) : State :=
  let n := s.countedExcess c.outlet
  let t := s.setRecord c.outlet { s.record c.outlet with excess := n }
  if s.control.park.releaseHold ≤ n then
    match s.highestActive c.outlet with
    | some m => (s.setRecord c.outlet { s.record c.outlet with excess := 0 }).drainModule m c.outlet
    | none => t
  else t

/-- R119, stages 7 and 8, in service order. -/
def State.moduleStage (s : State) : State :=
  let order := s.serviceOrder
  order.foldl State.excessFor (order.foldl State.requestFor s)

/-- R119: stages 2 to 8. -/
def State.dispatch (s : State) : State := s.fundsStage.capStage.ceilingStage.grantStage.moduleStage

/-! ### The commands -/

/-- SET_CAP, R116. -/
def execSetCap (cap validity : BitVec 16) (s : State) : Host.Outcome State Fault Refusal :=
  s.request .site 0x30 fun s => s.answerSetCap cap.toNat validity.toNat

/-- TARGET_EXPIRY, R117. -/
def execTargetExpiry (s : State) : Host.Outcome State Fault Refusal := s.event State.targetExpiry

/-- READ_SITE, R134. -/
def execReadSite (s : State) : Host.Outcome State Fault Refusal :=
  s.request .site 0x38 fun s => s.answer .ok s.sitePayload

/-- R133: READ_OUTLET. -/
def State.answerReadOutlet (s : State) (outlet : Byte) : Answer :=
  match outletOf outlet with
  | none => s.answer .badValue
  | some o => s.answer .ok (s.outletPayload o)

/-- READ_OUTLET, R133. -/
def execReadOutlet (outlet : Byte) (s : State) : Host.Outcome State Fault Refusal :=
  s.request .site 0x39 fun s => s.answerReadOutlet outlet

end Sys2Proof.Machine
end

