-- ==== Sys2Proof/Machine/Metering.lean ====
section
/-! DEFINITION. The Metering Unit (04_energy_pulses_and_pedestal_measurements.md): the pulse filters, attribution of pulses, the
overdraw check. -/

namespace Sys2Proof.Machine

/-- R71: a stray pulse of weight `w`. -/
def State.strayPulse (s : State) (o : Outlet) (w : Nat) : State :=
  (s.setMeter o { s.meter o with stray := satAdd (s.meter o).stray w }).raiseOutlet .strayEnergy o

/-- R69: whether a session in this state bills pulses. -/
def SessionState.bills : SessionState → Bool
  | .charging => true
  | .parked => true
  | .suspended _ _ => true
  | .stopping _ _ _ => true
  | .armed _ => false
  | .closedWait _ _ => false

/-- R69 to R72: a pulse of weight `w` with a park time is billed or stray. -/
def State.attributePulse (s : State) (o : Outlet) (w stamp : Nat) : State :=
  match s.slot o with
  | none => s.strayPulse o w
  | some ses =>
    if ses.state.bills ∧ ses.pulseEnergy + w ≤ max32 then
      (s.setSlot o (some (ses.bill w stamp))).evaluateFunds o
    else s.strayPulse o w

/-- R66, R69: a low level whose low count has reached the minimum width is confirmed, and its pulse taken. -/
def State.takePulse (s : State) (o : Outlet) : State :=
  match (s.meter o).filter with
  | .lowMeasuring n stamp =>
    if (s.outletItems o).pulseMinWidth ≤ n then
      (s.setMeter o { s.meter o with filter := .lowTaken, pulses := satAdd (s.meter o).pulses 1 }).attributePulse o
        (s.outletItems o).pulseWeight stamp
    else s
  | _ => s

/-- R67: a high sample in LOW_MEASURING. -/
def State.endRunt (s : State) (o : Outlet) : State :=
  match (s.meter o).filter with
  | .lowMeasuring _ _ => s.setMeter o { s.meter o with filter := .high, runts := satAdd (s.meter o).runts 1 }
  | _ => s

/-- R65: a low sample in HIGH. -/
def State.leadingEdge (s : State) (o : Outlet) : State :=
  match (s.meter o).filter with
  | .high => s.setMeter o { s.meter o with filter := .lowMeasuring 1 s.clock.parkTime }
  | _ => s

/-- R64, R68: a high sample in START or LOW_TAKEN. -/
def State.inputHigh (s : State) (o : Outlet) : State :=
  match (s.meter o).filter with
  | .start => s.setMeter o { s.meter o with filter := .high }
  | .lowTaken => s.setMeter o { s.meter o with filter := .high }
  | _ => s

/-- R75: the allowance over a published setpoint. -/
def overdrawAllowance (published : Nat) : Nat := max 20 (published / 20)

/-- R75: whether a measured power is excessive. -/
def excessive (published measured : Nat) : Bool := decide (published + overdrawAllowance published < measured)

/-- R75, R76: the overdraw check of a fresh take. -/
def State.overdrawCheck (s : State) (o : Outlet) (measured : Nat) : State :=
  if excessive (s.link o).published measured then
    let n := min 3 ((s.meter o).overdraw + 1)
    let t := s.setMeter o { s.meter o with overdraw := n }
    if n = 3 then (t.enterStopping o .overdraw).raiseOutlet .overdraw o else t
  else s.setMeter o { s.meter o with overdraw := 0 }

/-- PULSE_TAKEN, R66 and R69 to R72. -/
def execPulseTaken (o : Outlet) (s : State) : Host.Outcome State Fault Refusal := s.event fun s => s.takePulse o

/-- RUNT, R67. -/
def execRunt (o : Outlet) (s : State) : Host.Outcome State Fault Refusal := s.event fun s => s.endRunt o

/-- PULSE_LEADING_EDGE, R65. -/
def execPulseLeadingEdge (o : Outlet) (s : State) : Host.Outcome State Fault Refusal := s.event fun s => s.leadingEdge o

/-- PULSE_INPUT_HIGH, R64 and R68. -/
def execPulseInputHigh (o : Outlet) (s : State) : Host.Outcome State Fault Refusal := s.event fun s => s.inputHigh o

end Sys2Proof.Machine
end

