-- ==== Sys2Proof/Machine/ModeControl.lean ====
section
/-! DEFINITION. Park Mode Control (01_park_configuration_and_operating_mode.md): CONFIG_WRITE, CONFIG_READ, START_PARK, STOP_PARK,
and RESET with RESET_RELEASE (R18). -/

namespace Sys2Proof.Machine

/-! ### Configuration -/

/-- R5: CONFIG_WRITE, its conditions in order. -/
def State.answerConfigWrite (s : State) (item index : Byte) (value : BitVec 32) : Answer :=
  if s.control.mode = .operating then s.answer .wrongMode
  else match ConfigRef.of item index with
    | none => s.answer .badValue
    | some r =>
      if r.inRange value.toNat then ({ s with control := s.control.write value.toNat r } : State).answer .ok
      else s.answer .badValue

/-- R7: CONFIG_READ. -/
def State.answerConfigRead (s : State) (item index : Byte) : Answer :=
  match ConfigRef.of item index with
  | none => s.answer .badValue
  | some r =>
    match s.control.read r with
    | none => s.answer .ok (0 :: toBytes 4 0)
    | some v => s.answer .ok (1 :: toBytes 4 v)

/-! ### START_PARK -/

/-- R10, check 3: whether a present outlet's items pass. -/
def OutletItems.valid (c : OutletItems) (rating : Nat) : Bool :=
  match c.maximum, c.minimum, c.ramp with
  | some hi, some lo, some ramp =>
    decide (lo ≤ hi) && decide (lo ≤ ramp) && decide (hi ≤ c.moduleLimit * rating)
  | _, _, _ => false

/-- R10, check 4: whether every outlet of a reach is present. -/
def ModeControl.reachPresent (c : ModeControl) (reach : OutletSet) : Bool :=
  allOutlets.all fun o => !OutletSet.has reach o || c.outlets[o].present

/-- R10, check 5: whether a module in service reaches the outlet. -/
def ModeControl.reached (c : ModeControl) (o : Outlet) : Bool :=
  allModules.any fun m => c.modules[m].inService && OutletSet.has c.modules[m].reach o

/-- R10, R12: the number of the first check that fails with its subject (0xFF where there is none); none if every check
passes. -/
def ModeControl.failedCheck (c : ModeControl) : Option (Byte × Byte) :=
  if c.park.moduleRating.isNone || c.park.siteRamp.isNone || c.park.fallbackCap.isNone then some (1, 0xFF)
  else if allOutlets.all (fun o => !c.outlets[o].present) then some (2, 0xFF)
  else match allOutlets.find? fun o => c.outlets[o].present && !c.outlets[o].valid (c.park.moduleRating.getD 0) with
    | some o => some (3, BitVec.ofNat 8 o.val)
    | none =>
      match allModules.find? fun m =>
          c.modules[m].inService && (c.modules[m].reach == 0 || !c.reachPresent c.modules[m].reach) with
      | some m => some (4, BitVec.ofNat 8 m.val)
      | none =>
        match allOutlets.find? fun o => c.outlets[o].present && !c.reached o with
        | some o => some (5, BitVec.ofNat 8 o.val)
        | none => if c.park.cyclePeriod < 16 * c.park.slotLength + 10 then some (6, 0xFF) else none

/-- R11: a module record set from the configuration; the fault indication is kept. -/
def Module.setUp (m : Module) (c : ModuleItems) : Module :=
  { m with
    state :=
      if c.inService then (if m.indication = .faultOn then .faulted .cabinetFault else .free) else .outOfService
    reach := c.reach
    leaving := false }

/-- R9, R106: an outlet's link at START_PARK; the discard counter is kept. -/
def OutletLink.started (l : OutletLink) : OutletLink := { l with link := .unknown, miss := 0, published := 0 }

/-- R9, R11: the start of the park. -/
def State.startUp (s : State) : State :=
  { s with
    control := { s.control with
      mode := .operating
      cycleTimer := some (s.clock.elapsed + s.control.park.cyclePeriod) }
    sessions := { s.sessions with nextStamp := 1 }
    line := { s.line with
      cycleNumber := 0
      openingPending := false
      outlets := Vector.ofFn fun o => s.line.outlets[o].started }
    exchanges := Vector.replicate 16 .reset
    dispatcher := { s.dispatcher with
      effectiveCap := 0
      available := 0
      records := Vector.replicate 16 .starting }
    pool := { s.pool with modules := Vector.ofFn fun m => s.pool.modules[m].setUp s.control.modules[m] } }

/-- R8, R12: START_PARK. -/
def State.answerStartPark (s : State) : Answer :=
  if s.control.mode = .operating then s.answer .already
  else match s.control.failedCheck with
    | some (check, subject) => s.answer .invalidConfig [check, subject]
    | none => s.startUp.answer .ok

/-! ### STOP_PARK -/

/-- R14: whether a module is in SWITCHING, WARMING, ACTIVE, DRAINING or OPENING. -/
def State.anyModuleMoving (s : State) : Bool := allModules.any fun m => (s.module m).state.assigned.isSome

/-- R14: whether any slot is not VACANT. -/
def State.anySlotHeld (s : State) : Bool := allOutlets.any fun o => (s.slot o).isSome

/-- R15, R102: an outlet's exchange at STOP_PARK: emptied; the WRITING role passes to buffer 0, unless a frame for the outlet is
being assembled, whose buffer keeps the role until the frame ends. -/
def Exchange.stopped (x : Exchange) (assembling : Bool) : Exchange :=
  { Exchange.reset with writing := if assembling then x.writing else 0 }

/-- R15: an outlet's link at STOP_PARK; the last published setpoint is kept. -/
def OutletLink.stopped (l : OutletLink) : OutletLink := { l with link := .unknown, miss := 0 }

/-- R98: the outlet whose report frame is being assembled, if there is one. -/
def LineRx.isAssembling (rx : LineRx) (o : Outlet) : Bool := rx == .assembling (BitVec.ofNat 8 o.val)

/-- R15: the park stops. -/
def State.shutDown (s : State) : State :=
  { s with
    control := { s.control with mode := .maintenance, cycleTimer := none }
    line := { s.line with
      openingPending := false
      outlets := Vector.ofFn fun o => s.line.outlets[o].stopped }
    exchanges := Vector.ofFn fun o => s.exchanges[o].stopped (s.line.rx.isAssembling o)
    dispatcher := { s.dispatcher with
      effectiveCap := 0
      available := 0
      records := Vector.replicate 16 .starting } }

/-- R14: STOP_PARK, its conditions in order. -/
def State.answerStopPark (s : State) : Answer :=
  if s.control.mode = .maintenance then s.answer .already
  else if s.anySlotHeld then s.answer .liveSessions
  else if s.anyModuleMoving then s.answer .modulesMoving
  else s.shutDown.answer .ok

/-! ### The commands -/

/-- CONFIG_WRITE, R5. -/
def execConfigWrite (item index : Byte) (value : BitVec 32) (s : State) : Host.Outcome State Fault Refusal :=
  s.request .site 0x32 fun s => s.answerConfigWrite item index value

/-- CONFIG_READ, R7. -/
def execConfigRead (item index : Byte) (s : State) : Host.Outcome State Fault Refusal :=
  s.request .site 0x33 fun s => s.answerConfigRead item index

/-- START_PARK, R8 to R12. -/
def execStartPark (s : State) : Host.Outcome State Fault Refusal := s.request .site 0x34 State.answerStartPark

/-- STOP_PARK, R14 and R15. -/
def execStopPark (s : State) : Host.Outcome State Fault Refusal := s.request .site 0x35 State.answerStopPark

/-- RESET, R18: every block takes its reset state and the part is held in reset; the commands waiting outside stay (log 4), and so
does the model's count of free values drawn, so that a later draw need not agree with an earlier one (log 6). -/
def execReset (s : State) : Host.Outcome State Fault Refusal :=
  .next { State.reset with
    held := true
    clock := { Clock.reset with freeDraws := s.clock.freeDraws }
    pending := s.pending }

/-- RESET_RELEASE, R18, R19, R20: the part leaves reset, and elapsed time and park time start from 0. Without a reset to leave it has
not occurred (log 1). -/
def execResetRelease (s : State) : Host.Outcome State Fault Refusal :=
  .next (if s.held then { s with held := false, clock := { s.clock with elapsed := 0, parkTime := 0 } } else s)

end Sys2Proof.Machine
end

