-- ==== Sys2Proof/Machine/Line.lean ====
section
/-! DEFINITION. The Line Controller and the Report Exchange (06_the_pedestal_line_and_report_exchange.md): frames on the line, the
three-buffer exchange, the takes and what they do to a session (R43 to R51), the cycle expiry (R119) and the openings. -/

namespace Sys2Proof.Machine

/-! ### The exchange, R102 to R105 -/

/-- R102: a buffer with one of the three roles. -/
def Exchange.used (x : Exchange) (b : Fin 3) : Bool := b == x.writing || x.latest == some b || x.held == some b

/-- R103, step 3: the lowest-numbered free buffer. Where the three roles are distinct there is one after steps 1 and 2. -/
def Exchange.lowestFree (x : Exchange) : Fin 3 := ([0, 1, 2].find? fun b => !x.used b).getD 0

/-- A buffer emptied. -/
def emptied (buffers : Vector (Option Report) 3) : Option (Fin 3) → Vector (Option Report) 3
  | none => buffers
  | some b => buffers.set b none

/-- R103: a report is accepted. -/
def Exchange.accept (x : Exchange) (r : Report) : Exchange :=
  let y : Exchange := { x with
    buffers := (emptied x.buffers x.latest).set x.writing (some r)
    latest := some x.writing }
  { y with writing := y.lowestFree }

/-- R104: the LATEST report, if its cycle echo is `n`. -/
def Exchange.freshReport (x : Exchange) (n : Nat) : Option Report :=
  (x.latest.bind fun b => x.buffers[b]).bind fun r => if r.echo = n then some r else none

/-- R104: the buffers of a fresh take. -/
def Exchange.takeFresh (x : Exchange) : Exchange :=
  { x with buffers := emptied x.buffers x.held, held := x.latest, latest := none }

/-- R105: the buffers of a stale take. -/
def Exchange.dropLatest (x : Exchange) : Exchange := { x with buffers := emptied x.buffers x.latest, latest := none }

/-! ### What a take does to a session, R43 to R51 -/

/-- R39: one step of the service counter. -/
def nextStamp (n : Nat) : Nat := if n = max32 then 1 else n + 1

/-- R45: the first entry into CHARGING. -/
def State.firstEntry (s : State) (o : Outlet) (ses : Session) (r : Report) : State :=
  ({ s.setSlot o (some { ses with
      state := .charging
      charge := some { stamp := s.sessions.nextStamp, meterStart := r.meter, lastMeter := r.meter,
                       startTime := s.clock.parkTime }
      feeCharged := ses.tariff.sessionFee }) with
    sessions.nextStamp := nextStamp s.sessions.nextStamp }).raiseOutlet .sessionCharging o

/-- R44: whether STOP_PRESSED applies to a state. -/
def SessionState.stoppable : SessionState → Bool
  | .armed _ => true
  | .charging => true
  | .parked => true
  | .suspended _ _ => false
  | .stopping _ _ _ => false
  | .closedWait _ _ => false

/-- R44: what the pedestal state of a fresh take does to the session. -/
def State.applyPedestal (s : State) (o : Outlet) (ses : Session) (r : Report) : State :=
  match ses.state, r.state with
  | .armed _, .ready => s.firstEntry o ses r
  | .armed _, .charging => s.firstEntry o ses r
  | .armed _, .fault => s.enterStopping o .pedestalFault
  | .charging, .empty => s.enterStopping o .unplug
  | .charging, .complete => s.setAndRelease o { ses with state := .parked }
  | .charging, .fault => s.enterStopping o .pedestalFault
  | .parked, .empty => s.enterStopping o .unplug
  | .parked, .ready => s.setSlot o (some { ses.leaveParked with state := .charging })
  | .parked, .charging => s.setSlot o (some { ses.leaveParked with state := .charging })
  | .parked, .fault => s.enterStopping o .pedestalFault
  | _, _ => s

/-- R43, step 2, and R44: STOP_PRESSED takes precedence over the pedestal state. -/
def State.applyReport (s : State) (o : Outlet) (r : Report) : State :=
  match s.slot o with
  | none => s
  | some ses =>
    if r.stopPressed ∧ ses.state.stoppable then s.enterStopping o .user else s.applyPedestal o ses r

/-- R51: a SUSPENDED session resumes. -/
def State.resume (s : State) (o : Outlet) : State :=
  match s.slot o with
  | none => s
  | some ses =>
    match ses.state with
    | .suspended .charging _ => s.setSlot o (some { ses with state := .charging })
    | .suspended .parked _ => s.setAndRelease o { ses with state := .parked }
    | _ => s

/-- R43, step 3: whether the session's last meter register follows the report. -/
def Session.readMeter (ses : Session) (r : Report) : Session :=
  match ses.state with
  | .closedWait _ _ => ses
  | _ => { ses with charge := ses.charge.map fun c => { c with lastMeter := r.meter } }

/-- R43, step 3. -/
def State.recordMeter (s : State) (o : Outlet) (r : Report) : State :=
  match s.slot o with
  | none => s
  | some ses => s.setSlot o (some (ses.readMeter r))

/-- Whether the session in a slot is in CHARGING. -/
def State.isCharging (s : State) (o : Outlet) : Bool := (s.slot o).any fun ses => ses.state == .charging

/-- R43: a fresh take at the session: resumption, transitions, meter register, overdraw. -/
def State.sessionFresh (s : State) (o : Outlet) (r : Report) : State :=
  let t := (s.resume o).applyReport o r
  let u := t.recordMeter o r
  if s.isCharging o && t.isCharging o then u.overdrawCheck o r.measured else u

/-- R50: a session is suspended from a state. -/
def State.suspend (s : State) (o : Outlet) (ses : Session) (from' : Resumable) : State :=
  (s.setAndRelease o { ses.leaveParked with
    state := .suspended from' (s.clock.elapsed + s.control.park.resumeLimit * 1000) }).raiseOutlet .sessionSuspended o

/-- R50: the outlet's link has become UNREACHABLE. -/
def State.linkLost (s : State) (o : Outlet) : State :=
  match s.slot o with
  | none => s
  | some ses =>
    match ses.state with
    | .charging => s.suspend o ses .charging
    | .parked => s.suspend o ses .parked
    | .armed _ => s
    | .suspended _ _ => s
    | .stopping _ _ _ => s
    | .closedWait _ _ => s

/-! ### The take, R104 to R107 -/

/-- R104: a fresh take. -/
def State.freshTake (s : State) (o : Outlet) (r : Report) : State :=
  ((s.setExchange o (s.exchange o).takeFresh).setLink o { s.link o with miss := 0, link := .online }).sessionFresh o r

/-- R105: the miss counter after a stale take. -/
def OutletLink.missed (l : OutletLink) : Nat := min 255 (l.miss + 1)

/-- R105, R106: whether a stale take makes the link UNREACHABLE. -/
def State.becomesUnreachable (s : State) (o : Outlet) : Bool :=
  decide (s.control.park.missLimit ≤ (s.link o).missed) && (s.link o).link != .unreachable

/-- R105: a stale take. -/
def State.staleTake (s : State) (o : Outlet) : State :=
  let t := (s.setExchange o (s.exchange o).dropLatest).setLink o { s.link o with miss := (s.link o).missed }
  if s.becomesUnreachable o then
    ((t.setLink o { t.link o with link := .unreachable }).raiseOutlet .outletUnreachable o).linkLost o
  else t

/-- R104, R105: the take of one present outlet, against the current cycle number. -/
def State.take (s : State) (o : Outlet) : State :=
  if s.present o then
    match (s.exchange o).freshReport s.line.cycleNumber with
    | some r => s.freshTake o r
    | none => s.staleTake o
  else s

/-- R119, stage 1. -/
def State.takes (s : State) : State := allOutlets.foldl State.take s

/-! ### Openings, R108 to R114 -/

/-- R109, what State shows of it: no frame being assembled, the line seen high, nothing being sent, no reply window open. -/
def LineController.free (l : LineController) : Bool :=
  l.rx == .waiting && l.sending.isNone && l.replyWindow.isNone

/-- R111: the cycle number after one more opening. -/
def nextCycle (n : Nat) : Nat := (n + 1) % 65536

/-- R111 to R113: sending of the pending opening begins: the frame is built, and each entry's setpoint becomes the outlet's last
published setpoint. -/
def State.beginOpening (s : State) : State :=
  { s with line := { s.line with
      cycleNumber := nextCycle s.line.cycleNumber
      openingPending := false
      sending := some (s.setpointFrame (nextCycle s.line.cycleNumber))
      outlets := Vector.ofFn fun o => { s.line.outlets[o] with published := s.setpoint o } } }

/-- R110: an opening that still pends is replaced. -/
def State.skipPending (s : State) : State :=
  if s.line.openingPending then
    ({ s with line := { s.line with openingsSkipped := satAdd s.line.openingsSkipped 1 } } : State).raise .openingSkipped
  else s

/-- R108, R110, R132: the hand-over of a dispatch, where the line's wire is quiet or not. -/
def State.handOver (s : State) (wireQuiet : Bool) : State :=
  let t : State := { s.skipPending with line := { s.skipPending.line with openingPending := true } }
  if wireQuiet && t.line.free then t.beginOpening else t

/-- R13: the timer's next expiry is one cycle period after the one just reached. -/
def State.rearm (s : State) (expiry : Nat) : State :=
  { s with control := { s.control with cycleTimer := some (expiry + s.control.park.cyclePeriod) } }

/-- R13, R119: whether an expiry of the cycle timer has been reached in OPERATING. -/
def State.expiryReached (s : State) : Option Nat :=
  if s.control.mode = .operating then
    s.control.cycleTimer.bind fun d => if d ≤ s.clock.elapsed then some d else none
  else none

/-- R119: the stages of a cycle expiry. -/
def State.cycleExpiry (s : State) (wireQuiet : Bool) : State :=
  match s.expiryReached with
  | some d => (s.rearm d).takes.dispatch.handOver wireQuiet
  | none => s

/-- R108, R111: the line becomes free while an opening is pending; the wire's part of R109 is the event's own (log 9). -/
def State.openingBegin (s : State) : State := if s.line.openingPending && s.line.free then s.beginOpening else s

/-- R109, R114: the last character of the frame ends; the line is released and the reply window opens. -/
def State.openingEnd (s : State) : State :=
  if s.line.sending.isSome then
    { s with line := { s.line with
        sending := none
        replyWindow := some (s.clock.elapsed + 16 * s.control.park.slotLength) } }
  else s

/-- R109: the reply window closes. -/
def State.replyWindowClose (s : State) : State :=
  match s.line.replyWindow with
  | some d => if d ≤ s.clock.elapsed then { s with line := { s.line with replyWindow := none } } else s
  | none => s

/-! ### Frames on the line, R97 to R101 -/

/-- R96, R98: whether a frame with an address can begin or end now: the receiver is on, and the frame begun, if one is, has that
address (log 10). -/
def LineController.canEnd (l : LineController) (addr : Byte) : Bool :=
  l.sending.isNone && (l.rx == .waiting || l.rx == .assembling addr)

/-- R98, R99: the receive state after what came of a frame with an address: no frame, the next one begun, or this one going on. -/
def afterFrame (addr : Byte) : FrameEnd → LineRx
  | .gap => .waiting
  | .address a => .assembling a
  | .notYet => .assembling addr

/-- The receive state takes a value. -/
def State.setRx (s : State) (rx : LineRx) : State := { s with line := { s.line with rx := rx } }

/-- R102, R103: a frame for an outlet is discarded: its WRITING buffer is empty and keeps its role; in MAINTENANCE the role
passes to buffer 0. -/
def State.discardFrame (s : State) (o : Outlet) : State :=
  if s.control.mode = .maintenance then s.setExchange o { s.exchange o with writing := 0 } else s

/-- R99 to R101: a report frame for an outlet is discarded and counted. -/
def State.countDiscard (s : State) (o : Outlet) : State :=
  (s.discardFrame o).setLink o { s.link o with discards := satAdd (s.link o).discards 1 }

/-- The address of an outlet's frames. -/
def addressOf (o : Outlet) : Byte := BitVec.ofNat 8 o.val

/-- R100: the report a frame carries, if every condition of acceptance holds. -/
def State.acceptable (s : State) (o : Outlet) (body : List Byte) : Option Report :=
  if reportCheckOk body ∧ s.present o ∧ s.control.mode = .operating then reportOf body else none

/-- R100: a report frame of 15 characters is judged. -/
def State.judgeReport (s : State) (o : Outlet) (body : List Byte) : State :=
  match s.acceptable o body with
  | some r => s.setExchange o ((s.exchange o).accept r)
  | none => s.countDiscard o

/-- R99, R100: a report frame of 15 characters ends; before it ends it is not judged. -/
def State.reportFrame (s : State) (o : Outlet) (body : List Byte) (ended : FrameEnd) : State :=
  if s.line.canEnd (addressOf o) then
    (if ended = .notYet then s else s.judgeReport o body).setRx (afterFrame (addressOf o) ended)
  else s

/-- R99: a report frame of 1 to 14 characters ends by the gap time-out. -/
def State.gapTimeOut (s : State) (o : Outlet) (chars : Nat) : State :=
  if s.line.canEnd (addressOf o) ∧ 1 ≤ chars ∧ chars ≤ 14 then
    let t := (s.discardFrame o).setRx .waiting
    { t with line := { t.line with gapErrors := satAdd t.line.gapErrors 1 } }
  else s

/-- R99: whether a frame of this length ended in this way is discarded for its length. -/
def lengthDiscards (chars : Nat) : FrameEnd → Bool
  | .gap => decide (16 ≤ chars)
  | .address _ => decide ((1 ≤ chars ∧ chars ≤ 14) ∨ 16 ≤ chars)
  | .notYet => false

/-- R98, R99: a report frame is discarded for its length; or it has begun and goes on. -/
def State.reportDiscard (s : State) (o : Outlet) (chars : Nat) (ended : FrameEnd) : State :=
  if s.line.canEnd (addressOf o) then
    if lengthDiscards chars ended then (s.countDiscard o).setRx (afterFrame (addressOf o) ended)
    else if ended = .notYet ∧ 1 ≤ chars then s.setRx (afterFrame (addressOf o) ended)
    else s
  else s

/-- R98, R101: the unaddressed frame counter rises. -/
def State.countUnaddressed (s : State) : State :=
  { s with line := { s.line with unaddressed := satAdd s.line.unaddressed 1 } }

/-- R98: a frame whose address is not 0 to 15 ends, and is counted; or it has begun and goes on. -/
def State.unaddressedFrame (s : State) (addr : Byte) (ended : FrameEnd) : State :=
  if s.line.canEnd addr ∧ 16 ≤ addr.toNat then
    (if ended = .notYet then s else s.countUnaddressed).setRx (afterFrame addr ended)
  else s

/-- R98: a data character outside any frame. -/
def State.unaddressedCharacter (s : State) : State :=
  if s.line.sending.isNone && s.line.rx == .waiting then s.countUnaddressed else s

/-- R97: the frame being assembled, if there is one, is discarded. -/
def State.discardAssembling (s : State) : State :=
  match s.line.rx with
  | .assembling a =>
    match outletOf a with
    | some o => s.discardFrame o
    | none => s
  | .awaitingHigh => s
  | .waiting => s

/-- R97: a character is rejected. -/
def State.rejectCharacter (s : State) (framing : Bool) : State :=
  if s.line.sending.isNone && s.line.rx != .awaitingHigh then
    let t := s.discardAssembling.setRx (if framing then .awaitingHigh else .waiting)
    { t with line := { t.line with lineErrors := satAdd t.line.lineErrors 1 } }
  else s

/-- R96, R97: the line is seen high. -/
def State.lineSeenHigh (s : State) : State := if s.line.rx = .awaitingHigh then s.setRx .waiting else s

/-! ### The commands -/

/-- CYCLE_EXPIRY, R119. -/
def execCycleExpiry (wireQuiet : Bool) (s : State) : Host.Outcome State Fault Refusal :=
  s.event fun s => s.cycleExpiry wireQuiet

/-- OPENING_BEGIN, R111. -/
def execOpeningBegin (s : State) : Host.Outcome State Fault Refusal := s.event State.openingBegin

/-- OPENING_END, R114. -/
def execOpeningEnd (s : State) : Host.Outcome State Fault Refusal := s.event State.openingEnd

/-- REPLY_WINDOW_CLOSE, R109. -/
def execReplyWindowClose (s : State) : Host.Outcome State Fault Refusal := s.event State.replyWindowClose

/-- REPORT_FRAME, R100. -/
def execReportFrame (o : Outlet) (body : Vector Byte 14) (ended : FrameEnd) (s : State) :
    Host.Outcome State Fault Refusal :=
  s.event fun s => s.reportFrame o body.toList ended

/-- GAP_TIME_OUT, R99. -/
def execGapTimeOut (o : Outlet) (chars : Nat) (s : State) : Host.Outcome State Fault Refusal :=
  s.event fun s => s.gapTimeOut o chars

/-- REPORT_DISCARD, R99. -/
def execReportDiscard (o : Outlet) (chars : Nat) (ended : FrameEnd) (s : State) : Host.Outcome State Fault Refusal :=
  s.event fun s => s.reportDiscard o chars ended

/-- REJECTED_CHARACTER, R97. -/
def execRejectedCharacter (framing : Bool) (s : State) : Host.Outcome State Fault Refusal :=
  s.event fun s => s.rejectCharacter framing

/-- UNADDRESSED_FRAME, R98. -/
def execUnaddressedFrame (addr : Byte) (ended : FrameEnd) (s : State) : Host.Outcome State Fault Refusal :=
  s.event fun s => s.unaddressedFrame addr ended

/-- UNADDRESSED_CHARACTER, R98. -/
def execUnaddressedCharacter (s : State) : Host.Outcome State Fault Refusal := s.event State.unaddressedCharacter

/-- LINE_SEEN_HIGH, R97. -/
def execLineSeenHigh (s : State) : Host.Outcome State Fault Refusal := s.event State.lineSeenHigh

end Sys2Proof.Machine
end

