-- ==== Sys2Proof/Machine/Modules.lean ====
section
/-! DEFINITION. The Module Pool and the cabinet link (08_the_module_pool.md): CONFIRM, FAULT_ON, FAULT_OFF, the module deadlines,
MODULE_SERVICE, MODULE_CLEAR, and the link's own events. -/

namespace Sys2Proof.Machine

/-! ### Messages from the cabinet -/

/-- R144, R153: a CONFIRM that is not served. -/
def State.unexpectedConfirm (s : State) : State :=
  s.setCabinet { s.pool.cabinet with unexpectedConfirms := satAdd s.pool.cabinet.unexpectedConfirms 1 }

/-- R138: a matching CONFIRM in SWITCHING. -/
def State.routeConfirmed (s : State) (m : ModuleNo) (o : Outlet) (openOnConfirm : Bool) : State :=
  if openOnConfirm then s.openModule m o
  else if s.control.park.warmUpTime = 0 then s.setModuleState m (.active o)
  else s.setModuleState m (.warming o (s.clock.elapsed + s.control.park.warmUpTime))

/-- R144: a confirmed opening: FREE, or OUT_OF_SERVICE with the leaving-service mark cleared. -/
def State.opened (s : State) (m : ModuleNo) : State :=
  if (s.module m).leaving then
    (s.setModule m { s.module m with leaving := false }).unassign m .outOfService
  else s.unassign m .free

/-- R138, R144: CONFIRM. -/
def State.confirm (s : State) (m : ModuleNo) (route : Option Outlet) : State :=
  match (s.module m).state with
  | .switching o _ ooc => if route = some o then s.routeConfirmed m o ooc else s.faultModule m .routeMismatch
  | .opening _ _ => if route = none then s.opened m else s.unexpectedConfirm
  | .outOfService => s.unexpectedConfirm
  | .free => s.unexpectedConfirm
  | .warming _ _ => s.unexpectedConfirm
  | .active _ => s.unexpectedConfirm
  | .draining _ _ => s.unexpectedConfirm
  | .faulted _ => s.unexpectedConfirm

/-- R146, R147: the last indication received. -/
def State.setIndication (s : State) (m : ModuleNo) (i : Indication) : State :=
  s.setModule m { s.module m with indication := i }

/-- R146: FAULT_ON. -/
def State.faultOn (s : State) (m : ModuleNo) : State :=
  let t := s.setIndication m .faultOn
  if (s.module m).state = .outOfService then t else t.faultModule m .cabinetFault

/-- R152: the incoming message is discarded as a frame error, and the receiver hunts again. -/
def State.cabinetFrameError (s : State) : State :=
  s.setCabinet { s.pool.cabinet with rx := .hunting, frameErrors := satAdd s.pool.cabinet.frameErrors 1 }

/-- R152: the incoming message is discarded as unusable, and the receiver hunts again. -/
def State.unusableMessage (s : State) : State :=
  s.setCabinet { s.pool.cabinet with rx := .hunting, unusable := satAdd s.pool.cabinet.unusable 1 }

/-- R165 of the cabinet receiver (R152): a message has completed, and the receiver hunts again. -/
def State.cabinetMessageDone (s : State) : State := s.setCabinet { s.pool.cabinet with rx := .hunting }

/-- R151: the message being sent has been sent, and the head of the queue begins. -/
def State.cabinetSent (s : State) : State := s.setCabinet ({ s.pool.cabinet with sending := none } : CabinetLink).pump

/-! ### Deadlines -/

/-- R139: the deadline of a module in SWITCHING. -/
def State.switchTimeout (s : State) (m : ModuleNo) : State :=
  match (s.module m).state with
  | .switching _ d _ => if d ≤ s.clock.elapsed then s.faultModule m .confirmTimeout else s
  | _ => s

/-- R140: the deadline of a module in WARMING. -/
def State.warmUpDeadline (s : State) (m : ModuleNo) : State :=
  match (s.module m).state with
  | .warming o d => if d ≤ s.clock.elapsed then s.setModuleState m (.active o) else s
  | _ => s

/-- R143: the deadline of a module in DRAINING. -/
def State.drainDeadline (s : State) (m : ModuleNo) : State :=
  match (s.module m).state with
  | .draining o d => if d ≤ s.clock.elapsed then s.openModule m o else s
  | _ => s

/-- R144: the deadline of a module in OPENING. -/
def State.openingTimeout (s : State) (m : ModuleNo) : State :=
  match (s.module m).state with
  | .opening _ d => if d ≤ s.clock.elapsed then s.faultModule m .confirmTimeout else s
  | _ => s

/-! ### Service requests -/

/-- R148, R149: an answer of MODULE_SERVICE that carries the module's state after the request. -/
def State.answerState (s : State) (m : ModuleNo) (status : Status) : Answer := s.answer status [(s.module m).state.code]

/-- R148: a module taken out of use. -/
def State.serviceOut (s : State) (m : ModuleNo) : Answer :=
  match (s.module m).state with
  | .outOfService => s.answerState m .already
  | .free => (s.setModuleState m .outOfService).answerState m .ok
  | .faulted _ =>
    (s.setModule m { s.module m with state := .outOfService, leaving := false }).answerState m .ok
  | _ =>
    if (s.module m).leaving then s.answerState m .already
    else ((s.setModule m { s.module m with leaving := true }).releaseModule m).answerState m .ok

/-- R149: a module brought into use. -/
def State.serviceIn (s : State) (m : ModuleNo) : Answer :=
  match (s.module m).state with
  | .outOfService =>
    (s.setModuleState m (if (s.module m).indication = .faultOn then .faulted .cabinetFault else .free)).answerState
      m .ok
  | _ =>
    if (s.module m).leaving then (s.setModule m { s.module m with leaving := false }).answerState m .ok
    else s.answerState m .already

/-- R148, R149: MODULE_SERVICE by its direction byte: 0 out, 1 in, any other refused. -/
def State.answerService (s : State) (module direction : Byte) : Answer :=
  match moduleOfByte module with
  | none => s.answer .badValue
  | some m =>
    if direction = 0#8 then s.serviceOut m else if direction = 1#8 then s.serviceIn m else s.answer .badValue

/-- R150: MODULE_CLEAR. -/
def State.answerClear (s : State) (module : Byte) : Answer :=
  match moduleOfByte module with
  | none => s.answer .badValue
  | some m =>
    match (s.module m).state with
    | .faulted reason =>
      if (s.module m).indication = .faultOn then
        s.answer .faultPresent [(ModuleState.faulted reason).code, (s.module m).indication.code]
      else if (s.module m).leaving then
        (s.setModule m { s.module m with state := .outOfService, leaving := false }).answerState m .ok
      else (s.setModuleState m .free).answerState m .ok
    | st => s.answer .faultPresent [st.code, (s.module m).indication.code]

/-! ### The commands -/

/-- CONFIRM, R138 and R144. -/
def execConfirm (m : ModuleNo) (route : Option Outlet) (s : State) : Host.Outcome State Fault Refusal :=
  s.event fun s => s.cabinetMessageDone.confirm m route

/-- FAULT_ON, R146. -/
def execFaultOn (m : ModuleNo) (s : State) : Host.Outcome State Fault Refusal :=
  s.event fun s => s.cabinetMessageDone.faultOn m

/-- FAULT_OFF, R147. -/
def execFaultOff (m : ModuleNo) (s : State) : Host.Outcome State Fault Refusal :=
  s.event fun s => s.cabinetMessageDone.setIndication m .faultOff

/-- CABINET_FRAME_ERROR, R152 and R177: the message is judged; one that is not a frame error is not this event (log 1). -/
def execCabinetFrameError (frame : RawFrame) (s : State) : Host.Outcome State Fault Refusal :=
  s.event fun s => if frame.complete && judgeCabinet frame == .frameError then s.cabinetFrameError else s

/-- UNUSABLE_MESSAGE, R152 and R177. -/
def execUnusableMessage (frame : RawFrame) (s : State) : Host.Outcome State Fault Refusal :=
  s.event fun s => if frame.complete && judgeCabinet frame == .unusable then s.unusableMessage else s

/-- CABINET_GAP_TIMEOUT, R152 and R165: the bytes received leave the receiver in LENGTH or BODY. -/
def execCabinetGapTimeout (received : List Byte) (s : State) : Host.Outcome State Fault Refusal :=
  s.event fun s => if s.pool.cabinet.rx.gapRunsAfter received then s.cabinetFrameError else s

/-- CABINET_MESSAGE_SENT, R151: with no message being sent it has not occurred (log 1). -/
def execCabinetMessageSent (s : State) : Host.Outcome State Fault Refusal :=
  s.event fun s => if s.pool.cabinet.sending.isSome then s.cabinetSent else s

/-- SWITCH_TIMEOUT, R139. -/
def execSwitchTimeout (m : ModuleNo) (s : State) : Host.Outcome State Fault Refusal := s.event fun s => s.switchTimeout m

/-- WARM_UP_DEADLINE, R140. -/
def execWarmUpDeadline (m : ModuleNo) (s : State) : Host.Outcome State Fault Refusal :=
  s.event fun s => s.warmUpDeadline m

/-- DRAIN_DEADLINE, R143. -/
def execDrainDeadline (m : ModuleNo) (s : State) : Host.Outcome State Fault Refusal := s.event fun s => s.drainDeadline m

/-- OPENING_TIMEOUT, R144. -/
def execOpeningTimeout (m : ModuleNo) (s : State) : Host.Outcome State Fault Refusal :=
  s.event fun s => s.openingTimeout m

/-- MODULE_SERVICE_OUT, R148. -/
def execModuleServiceOut (module direction : Byte) (s : State) : Host.Outcome State Fault Refusal :=
  s.request .site 0x36 fun s => s.answerService module direction

/-- MODULE_SERVICE_IN, R149. -/
def execModuleServiceIn (module : Byte) (s : State) : Host.Outcome State Fault Refusal :=
  s.request .site 0x36 fun s => s.answerService module 1

/-- MODULE_CLEAR, R150. -/
def execModuleClear (module : Byte) (s : State) : Host.Outcome State Fault Refusal :=
  s.request .site 0x37 fun s => s.answerClear module

end Sys2Proof.Machine
end

