-- ==== Sys2Proof/Machine/ParkClock.lean ====
section
/-! DEFINITION. The Park Clock (02_park_clock_and_tariff_plans.md, R19 to R31): the millisecond, the trim, TIME_REF and holdover. -/

namespace Sys2Proof.Machine

/-- R20: park time advanced, saturating. -/
def Clock.advancePark (c : Clock) (n : Nat) : Nat := min (c.parkTime + n) max48

/-- R21: the adjustment interval of a trim that is not 0. -/
def adjustInterval (trim : Int) : Nat := 1000000 / trim.natAbs

/-- R21: whether the next elapsed millisecond is an adjusted one. -/
def Clock.adjustDue (c : Clock) : Bool := c.trim != 0 && decide (adjustInterval c.trim ≤ c.adjust + 1)

/-- R19: elapsed time one millisecond later. Past 2^48 − 1 the spec states no value: a free value, and the draw is counted
(log 6). -/
def Clock.tickElapsed (c : Clock) : Clock :=
  if c.elapsed < max48 then { c with elapsed := c.elapsed + 1 }
  else { c with elapsed := (Config.elapsedAfterLast c.freeDraws).toNat, freeDraws := c.freeDraws + 1 }

/-- R20, R21: park time and the adjustment counter over one elapsed millisecond. -/
def Clock.tickPark (c : Clock) : Clock :=
  if c.adjustDue then { c with adjust := 0, parkTime := c.advancePark (if 0 < c.trim then 2 else 0) }
  else { c with adjust := if c.trim = 0 then 0 else c.adjust + 1, parkTime := c.advancePark 1 }

/-- R48: the parked elapsed time of a PARKED session over one millisecond. -/
def Session.tick (ses : Session) : Session :=
  match ses.state with
  | .parked => { ses with parkedElapsed := ses.parkedElapsed + 1 }
  | .armed _ => ses
  | .charging => ses
  | .suspended _ _ => ses
  | .stopping _ _ _ => ses
  | .closedWait _ _ => ses

/-- R64, R65: the sample of a millisecond at an input whose low level goes on raises the low count (log 7). -/
def Meter.tick (m : Meter) : Meter :=
  match m.filter with
  | .lowMeasuring n stamp => { m with filter := .lowMeasuring (n + 1) stamp }
  | .start => m
  | .high => m
  | .lowTaken => m

/-- R19 to R21, R48, R64: one millisecond of elapsed time. -/
def State.millisecond (s : State) : State :=
  { s with
    clock := s.clock.tickElapsed.tickPark
    sessions := { s.sessions with slots := Vector.ofFn fun o => s.sessions.slots[o].map Session.tick }
    meters := Vector.ofFn fun o => s.meters[o].tick }

/-! ### TIME_REF -/

/-- R21: the trim takes a value; the adjustment counter restarts if it differs. -/
def Clock.setTrim (c : Clock) (t : Int) : Clock := { c with trim := t, adjust := if t = c.trim then c.adjust else 0 }

/-- R30, R168: the outcomes with their codes. -/
inductive RefOutcome where
  | firstSet
  | stepped
  | slewing
  | filtered
deriving DecidableEq, Repr

def RefOutcome.code : RefOutcome → Byte
  | .firstSet => 0
  | .stepped => 1
  | .slewing => 2
  | .filtered => 3

/-- R21: the range of the trim. -/
def clampTrim (t : Int) : Int := max (-500) (min 500 t)

/-- R24: D, signed. -/
def Clock.difference (c : Clock) (ref : Nat) : Int := (ref : Int) - (c.parkTime : Int)

/-- R24 to R27: which outcome a reference has. -/
def Clock.outcome (c : Clock) (ref threshold : Nat) : RefOutcome :=
  if c.sync = .unsynced then .firstSet
  else if (threshold : Int) ≤ c.difference ref then .stepped
  else if c.difference ref ≤ -(threshold : Int) then .slewing
  else .filtered

/-- R27: the smoothing filter with 2^depth. -/
def Clock.filter (c : Clock) (ref depth : Nat) : Clock :=
  let s0 := if c.slewing then 0 else c.smoothed
  let t0 := if c.slewing then 0 else c.trim
  let s1 := s0 + (c.difference ref - s0).tdiv ((2 ^ depth : Nat) : Int)
  { c.setTrim (clampTrim (t0 + s1)) with smoothed := s1, slewing := false }

/-- R24 to R27: the clock after a reference, the holdover deadline apart. -/
def Clock.discipline (c : Clock) (ref threshold depth : Nat) : Clock :=
  match c.outcome ref threshold with
  | .firstSet => { c.setTrim 0 with parkTime := ref, smoothed := 0, slewing := false }
  | .stepped =>
    { (if c.slewing then c.setTrim 0 else c) with parkTime := ref, smoothed := 0, slewing := false }
  | .slewing => { c.setTrim (-500) with smoothed := 0, slewing := true }
  | .filtered => c.filter ref depth

/-- R24, R28: the clock after a reference. -/
def Clock.reference (c : Clock) (ref threshold depth holdoverSeconds : Nat) : Clock :=
  { c.discipline ref threshold depth with
    sync := .synced
    holdoverDeadline := some (c.elapsed + holdoverSeconds * 1000) }

/-- R25, R26, R29: what a reference does outside the clock. -/
def State.referenceFlags (s : State) : RefOutcome → State
  | .firstSet => s
  | .stepped => (s.flagLive .timeStepped).raise .timeStepped
  | .slewing => s.flagLive .timeSlewed
  | .filtered => s

/-- R30: D as the response carries it: saturated to 32 bits, 0 for FIRST_SET. -/
def reportedDifference (o : RefOutcome) (d : Int) : Int :=
  if o = .firstSet then 0 else max (-2147483648) (min 2147483647 d)

/-- R24 to R30: TIME_REF. -/
def State.answerTimeRef (s : State) (ref : Nat) : Answer :=
  let p := s.control.park
  let o := s.clock.outcome ref p.stepThreshold
  let c := s.clock.reference ref p.stepThreshold p.filterDepth p.holdoverTime
  (({ s with clock := c } : State).referenceFlags o).answer .ok
    (o.code :: toBytesInt 4 (reportedDifference o (s.clock.difference ref)) ++ toBytes 6 c.parkTime ++
      toBytesInt 2 c.trim)

/-! ### Holdover -/

/-- R28: whether the holdover deadline passes now. -/
def Clock.holdoverDue (c : Clock) : Bool :=
  c.sync == .synced &&
    match c.holdoverDeadline with
    | none => false
    | some d => decide (d ≤ c.elapsed)

/-- R28: the clock enters HOLDOVER. -/
def State.enterHoldover (s : State) : State :=
  (({ s with clock := { s.clock with sync := .holdover, holdoverDeadline := none } } : State).flagLive
    .holdoverSeen).raise .timeHoldover

/-! ### The commands -/

/-- READ_STATUS, R23. -/
def execReadStatus (port : PortId) (s : State) : Host.Outcome State Fault Refusal :=
  s.request port 0x01 fun s => s.answer .ok s.statusPayload

/-- TIME_REF, R24 to R30. -/
def execTimeRef (ref : BitVec 48) (s : State) : Host.Outcome State Fault Refusal :=
  s.request .site 0x31 fun s => s.answerTimeRef ref.toNat

/-- ELAPSED_MILLISECOND, R19 to R21, R48, R64. -/
def execElapsedMillisecond (s : State) : Host.Outcome State Fault Refusal := s.event State.millisecond

/-- TRIM_ADJUSTMENT, R21: the millisecond in which the adjustment counter reaches the interval, whole (log 5). -/
def execTrimAdjustment (s : State) : Host.Outcome State Fault Refusal :=
  s.event fun s => if s.clock.adjustDue then s.millisecond else s

/-- HOLDOVER_DEADLINE, R28. -/
def execHoldoverDeadline (s : State) : Host.Outcome State Fault Refusal :=
  s.event fun s => if s.clock.holdoverDue then s.enterHoldover else s

end Sys2Proof.Machine
end

