-- ==== Sys2Proof/Machine/Ports.lean ====
section
/-! DEFINITION. The request ports (10_request_ports_cabinet_link_and_frame_layouts.md, R165 to R167 and R171): frames that reach no
owner, the gap timer, the transmitter, and READ_COUNTERS with its snapshot. -/

namespace Sys2Proof.Machine

/-! ### Frames that reach no owner, R166 and R167 -/

/-- R166, R167: a complete frame that its judgement answers without an owner: not judged when 8 responses are held, otherwise
answered as `reply` says of the verdict; a frame that is not complete, or whose verdict is not this row's, is another event
(log 2). -/
def State.completeFrame (s : State) (p : PortId) (f : RawFrame) (reply : FrameVerdict → Option (Byte × Status)) : State :=
  if f.complete then
    if s.portFull p then s.overrun p
    else match reply (judgeFrame p f) with
      | some (code, status) => s.respond p code status []
      | none => s
  else s

/-- R166, orders 1, 2 and 5. -/
def badFrameReply : FrameVerdict → Option (Byte × Status)
  | .badFrame => some (0xFF, .badFrame)
  | .unknownRequest _ => none
  | .request _ => none

/-- R166, orders 3 and 4. -/
def unknownRequestReply : FrameVerdict → Option (Byte × Status)
  | .unknownRequest code => some (code, .unknownRequest)
  | .badFrame => none
  | .request _ => none

/-- R165: the gap timer runs out. -/
def State.gapTimeout (s : State) (p : PortId) (received : List Byte) : State :=
  if (s.port p).rx.gapRunsAfter received then
    s.setPort p { s.port p with rx := .hunting, gaps := satAdd (s.port p).gaps 1 }
  else s

/-- R167: the response being sent ends, and the next one is at the head. -/
def State.responseSent (s : State) (p : PortId) : State :=
  s.setPort p { s.port p with responses := (s.port p).responses.tail }

/-! ### READ_COUNTERS, R73, R101, R153, R167 and R171 -/

/-- R171: one outlet's counters as they stand. -/
def State.countersOf (s : State) (o : Outlet) : OutletCounters :=
  { pulses := (s.meter o).pulses
    runts := (s.meter o).runts
    stray := (s.meter o).stray
    overdraw := (s.meter o).overdraw
    discards := (s.link o).discards
    shortfall := s.pool.shortfalls[o] }

/-- R171: every listed counter as it stands. -/
def State.counters (s : State) : Snapshot :=
  { lineErrors := s.line.lineErrors
    gapErrors := s.line.gapErrors
    unaddressed := s.line.unaddressed
    openingsSkipped := s.line.openingsSkipped
    cabinetFrameErrors := s.pool.cabinet.frameErrors
    unusable := s.pool.cabinet.unusable
    unexpectedConfirms := s.pool.cabinet.unexpectedConfirms
    settlementGaps := s.ports.settlement.gaps
    settlementOverruns := s.ports.settlement.overruns
    siteGaps := s.ports.site.gaps
    siteOverruns := s.ports.site.overruns
    outlets := Vector.ofFn s.countersOf }

/-- R171: the snapshot is taken. -/
def State.takeSnapshot (s : State) : State := { s with ports := { s.ports with snapshot := s.counters } }

/-- R73. -/
def Meter.cleared (m : Meter) : Meter := { m with pulses := 0, runts := 0, stray := 0 }

/-- R101. -/
def LineController.cleared (l : LineController) : LineController :=
  { l with
    lineErrors := 0
    gapErrors := 0
    unaddressed := 0
    openingsSkipped := 0
    outlets := Vector.ofFn fun o => { l.outlets[o] with discards := 0 } }

/-- R153. -/
def ModulePool.cleared (p : ModulePool) : ModulePool :=
  { p with
    cabinet := { p.cabinet with frameErrors := 0, unusable := 0, unexpectedConfirms := 0 }
    shortfalls := Vector.replicate 16 0 }

/-- R167. -/
def Port.cleared (p : Port) : Port := { p with gaps := 0, overruns := 0 }

/-- R171: the clearable counters become 0. -/
def State.clearCounters (s : State) : State :=
  { s with
    meters := Vector.ofFn fun o => s.meters[o].cleared
    line := s.line.cleared
    pool := s.pool.cleared
    ports := { s.ports with settlement := s.ports.settlement.cleared, site := s.ports.site.cleared } }

/-- R171: a part answered from the snapshot. -/
def State.answerPart (s : State) (part : Nat) : Answer := s.answer .ok (s.ports.snapshot.part part)

/-- R171: READ_COUNTERS. -/
def State.answerCounters (s : State) (clear part : Nat) : Answer :=
  if 1 < clear ∨ 3 < part ∨ (clear = 1 ∧ part ≠ 0) then s.answer .badValue
  else if part = 0 then
    (if clear = 1 then s.takeSnapshot.clearCounters else s.takeSnapshot).answerPart part
  else s.answerPart part

/-! ### The commands -/

/-- BAD_FRAME, R166. -/
def execBadFrame (p : PortId) (f : RawFrame) (s : State) : Host.Outcome State Fault Refusal :=
  s.event fun s => s.completeFrame p f badFrameReply

/-- UNKNOWN_REQUEST, R166. -/
def execUnknownRequest (p : PortId) (f : RawFrame) (s : State) : Host.Outcome State Fault Refusal :=
  s.event fun s => s.completeFrame p f unknownRequestReply

/-- RESPONSE_OVERRUN, R167. -/
def execResponseOverrun (p : PortId) (s : State) : Host.Outcome State Fault Refusal :=
  s.event fun s => if s.portFull p then s.overrun p else s

/-- REQUEST_GAP_TIMEOUT, R165. -/
def execRequestGapTimeout (p : PortId) (received : List Byte) (s : State) : Host.Outcome State Fault Refusal :=
  s.event fun s => s.gapTimeout p received

/-- RESPONSE_SENT, R167. -/
def execResponseSent (p : PortId) (s : State) : Host.Outcome State Fault Refusal := s.event fun s => s.responseSent p

/-- READ_COUNTERS, R171. -/
def execReadCounters (clear part : Byte) (s : State) : Host.Outcome State Fault Refusal :=
  s.request .site 0x3A fun s => s.answerCounters clear.toNat part.toNat

/-- READ_COUNTERS_CLEAR, R171. -/
def execReadCountersClear (part : Byte) (s : State) : Host.Outcome State Fault Refusal :=
  s.request .site 0x3A fun s => s.answerCounters 1 part.toNat

end Sys2Proof.Machine
end

