-- ==== Sys2Proof/Machine/Tariff.lean ====
section
/-! DEFINITION. The Tariff Store (02_park_clock_and_tariff_plans.md, R32 to R36): WRITE_PLAN, READ_PLAN, INVALIDATE_PLAN. -/

namespace Sys2Proof.Machine

def State.plan (s : State) (n : Fin 8) : Plan := s.plans[n]

def State.setPlan (s : State) (n : Fin 8) (p : Plan) : State := { s with plans := s.plans.set n p }

/-- R34: WRITE_PLAN, its conditions in order; `bands` is the payload after the band count. -/
def State.answerWritePlan (s : State) (plan : Byte) (sessionFee idleFee : Nat) (grace bandCount : Nat)
    (bands : List Byte) : Answer :=
  match planOf plan with
  | none => s.answer .badValue
  | some n =>
    if bandCount = 0 ∨ 6 < bandCount ∨ bands.length ≠ 6 * bandCount then s.answer .badValue
    else if Config.maxFee < sessionFee ∨ Config.maxFee < idleFee ∨ Config.maxGrace < grace then s.answer .badValue
    else if bandsWellFormed (bandsOf bandCount bands) then
      (s.setPlan n
        { valid := true, sessionFee := sessionFee, idleFee := idleFee, grace := grace,
          bands := bandsOf bandCount bands }).answer .ok
    else s.answer .badValue

/-- R35: INVALIDATE_PLAN. -/
def State.answerInvalidatePlan (s : State) (plan : Byte) : Answer :=
  match planOf plan with
  | none => s.answer .badValue
  | some n =>
    if (s.plan n).valid then (s.setPlan n { s.plan n with valid := false }).answer .ok else s.answer .already

/-- R36: READ_PLAN. -/
def State.answerReadPlan (s : State) (plan : Byte) : Answer :=
  match planOf plan with
  | none => s.answer .badValue
  | some n => s.answer .ok (s.plan n).payload

/-- WRITE_PLAN, R34. -/
def execWritePlan (plan : Byte) (sessionFee idleFee : BitVec 32) (grace bandCount : Byte) (bands : List Byte)
    (s : State) : Host.Outcome State Fault Refusal :=
  s.request .settlement 0x16 fun s =>
    s.answerWritePlan plan sessionFee.toNat idleFee.toNat grace.toNat bandCount.toNat bands

/-- READ_PLAN, R36. -/
def execReadPlan (plan : Byte) (s : State) : Host.Outcome State Fault Refusal :=
  s.request .settlement 0x17 fun s => s.answerReadPlan plan

/-- INVALIDATE_PLAN, R35. -/
def execInvalidatePlan (plan : Byte) (s : State) : Host.Outcome State Fault Refusal :=
  s.request .settlement 0x18 fun s => s.answerInvalidatePlan plan

end Sys2Proof.Machine
end

