-- ==== Sys2Proof/Machine/Sessions.lean ====
section
/-! DEFINITION. The Session Table (03_charging_sessions.md): ARM, TOPUP, STOP, QUERY_SESSION, the session deadlines and the
idle-minute accrual (R83). -/

namespace Sys2Proof.Machine

/-! ### ARM -/

/-- R39: the numbers held by a slot or by a record in the closure queue. -/
def State.heldNumbers (s : State) : List Nat :=
  allOutlets.filterMap (fun o => (s.slot o).map (·.number)) ++ s.closures.map (·.number)

/-- R39: one step of the session counter. -/
def nextNumber (n : Nat) : Nat := if n = max32 then 1 else n + 1

/-- R39: the counter advances until it reaches a number held by neither. At most 48 numbers are held, so 49 steps reach one. -/
def advanceNumber (taken : List Nat) : Nat → Nat → Nat
  | 0, n => n
  | fuel + 1, n => if taken.contains (nextNumber n) then advanceNumber taken fuel (nextNumber n) else nextNumber n

/-- R38: the copy of a plan. -/
def Plan.copy (p : Plan) (n : Nat) : TariffCopy :=
  { plan := n, sessionFee := p.sessionFee, idleFee := p.idleFee, grace := p.grace, bands := p.bands }

/-- R40, R42: the session an ARM creates. -/
def State.newSession (s : State) (hold plan cls : Nat) (p : Plan) (ref : Vector Byte 12) : Session :=
  { number := s.sessions.nextNumber
    state := .armed (s.clock.elapsed + s.control.park.armTimeout * 1000)
    paymentRef := ref
    cls := cls
    hold := hold
    tariff := p.copy plan
    charge := none
    feeCharged := 0
    energyCharge := 0
    energyRemainder := 0
    idleCharge := 0
    pulseEnergy := 0
    bandSubtotals := p.bands.map fun _ => 0
    parkedElapsed := 0
    minutesAccrued := 0
    idleMinutes := 0
    armTime := s.clock.parkTime
    fundsLowSent := false
    timeStepped := false
    timeSlewed := s.clock.slewing
    holdoverSeen := s.clock.sync == .holdover }

/-- R42: the session takes the slot, the session counter advances, the overdraw count becomes 0. -/
def State.createSession (s : State) (o : Outlet) (ses : Session) : State :=
  let t := (s.setSlot o (some ses)).setMeter o { s.meter o with overdraw := 0 }
  { t with sessions := { t.sessions with
      nextNumber := advanceNumber t.heldNumbers 49 s.sessions.nextNumber } }

/-- R41, order 5: the link is ONLINE and the HELD report does not show FAULT. -/
def State.pedestalReady (s : State) (o : Outlet) : Bool :=
  (s.link o).link == .online && ((s.exchange o).heldReport.map (·.state)) != some .fault

/-- R41: ARM, its conditions in order. -/
def State.answerArm (s : State) (outlet : Byte) (hold : Nat) (plan cls : Byte) (ref : Vector Byte 12) : Answer :=
  if s.control.mode ≠ .operating then s.answer .wrongMode
  else match outletOf outlet with
    | none => s.answer .outletDown
    | some o =>
      if !s.present o then s.answer .outletDown
      else if s.clock.sync = .unsynced then s.answer .noTime
      else if (s.slot o).isSome then s.answer .outletBusy
      else if !s.pedestalReady o then s.answer .outletDown
      else match planOf plan with
        | none => s.answer .badPlan
        | some n =>
          if !(s.plan n).valid then s.answer .badPlan
          else if 2 < cls.toNat then s.answer .badValue
          else if hold < s.control.park.minimumHold then s.answer .lowHold
          else if Config.maxHold < hold then s.answer .overLimit
          else
            (s.createSession o (s.newSession hold n.val cls.toNat (s.plan n) ref)).answer .ok
              (toBytes 4 s.sessions.nextNumber)

/-! ### TOPUP, STOP, QUERY_SESSION -/

/-- R53, R55: whether a request still reaches the session: ARMED, CHARGING, PARKED or SUSPENDED. -/
def SessionState.open : SessionState → Bool
  | .armed _ => true
  | .charging => true
  | .parked => true
  | .suspended _ _ => true
  | .stopping _ _ _ => false
  | .closedWait _ _ => false

/-- R53: TOPUP, its conditions in order. -/
def State.answerTopup (s : State) (number amount : Nat) : Answer :=
  match s.findSession number with
  | none => s.answer .unknownSession
  | some o =>
    match s.slot o with
    | none => s.answer .unknownSession
    | some ses =>
      if !ses.state.open then s.answer .tooLate
      else if Config.maxHold < ses.hold + amount then s.answer .overLimit
      else
        ((s.setSlot o (some { ses with hold := ses.hold + amount })).evaluateTopup o).answer .ok
          (toBytes 4 (ses.hold + amount))

/-- R55: STOP. -/
def State.answerStop (s : State) (number : Nat) : Answer :=
  match s.findSession number with
  | none => s.answer .unknownSession
  | some o =>
    match s.slot o with
    | none => s.answer .unknownSession
    | some ses => if ses.state.open then (s.enterStopping o .operator).answer .ok else s.answer .already

/-- R56: QUERY_SESSION. -/
def State.answerQuery (s : State) (outlet : Byte) : Answer :=
  match outletOf outlet with
  | none => s.answer .badValue
  | some o =>
    match s.slot o with
    | none => s.answer .empty
    | some ses => s.answer .ok (ses.view o s.clock.elapsed)

/-! ### Deadlines -/

/-- R49: the arm deadline passes in ARMED. -/
def State.armDeadline (s : State) (o : Outlet) : State :=
  match (s.slot o).bind (·.state.armDeadline?) with
  | some d => if d ≤ s.clock.elapsed then s.enterStopping o .noStart else s
  | none => s

/-- R52: the suspend deadline passes in SUSPENDED. -/
def State.suspendDeadline (s : State) (o : Outlet) : State :=
  match (s.slot o).bind (·.state.suspendDeadline?) with
  | some d => if d ≤ s.clock.elapsed then s.enterStopping o .linkLost else s
  | none => s

/-- R156: the queue takes the record at its tail and the slot becomes VACANT, or the session enters CLOSED_WAIT with its entry
stamp (R157). -/
def State.offer (s : State) (o : Outlet) (ses : Session) (r : ClosureRecord) : State :=
  if s.closures.length < Config.closureRoom then
    (({ s with closures := s.closures ++ [r] } : State).raise .closureReady).setSlot o none
  else s.setSlot o (some { ses with state := .closedWait r s.clock.elapsed })

/-- R61: the settle deadline passes in STOPPING, and the session closes. -/
def State.settleDeadline (s : State) (o : Outlet) : State :=
  match s.slot o with
  | none => s
  | some ses =>
    match ses.state with
    | .stopping reason time (some d) =>
      if d ≤ s.clock.elapsed then s.offer o ses (ses.close o reason time s.clock.parkTime) else s
    | _ => s

/-- R83: whether parked elapsed time has reached a whole minute not yet accrued, in PARKED. -/
def Session.accrualDue (ses : Session) : Bool :=
  ses.state == .parked && decide (ses.minutesAccrued < ses.parkedElapsed / 60000)

/-- R83: the accrual of the next minute n, and whether it charges one. -/
def Session.accrue (ses : Session) : Session × Bool :=
  let n := ses.minutesAccrued + 1
  let counted := { ses with minutesAccrued := n }
  if ses.tariff.grace < n ∧ ses.idleMinutes < max32 then
    ({ counted with idleMinutes := ses.idleMinutes + 1, idleCharge := ses.idleCharge + ses.tariff.idleFee }, true)
  else (counted, false)

/-- R83: an idle-minute accrual, followed by the funds guard when it charges a minute. -/
def State.idleAccrual (s : State) (o : Outlet) : State :=
  match s.slot o with
  | none => s
  | some ses =>
    if ses.accrualDue then
      let t := s.setSlot o (some ses.accrue.1)
      if ses.accrue.2 then t.evaluateFunds o else t
    else s

/-! ### The commands -/

/-- ARM, R41 and R42. -/
def execArm (outlet : Byte) (hold : BitVec 32) (plan cls : Byte) (ref : Vector Byte 12) (s : State) :
    Host.Outcome State Fault Refusal :=
  s.request .settlement 0x10 fun s => s.answerArm outlet hold.toNat plan cls ref

/-- TOPUP, R53. -/
def execTopup (number amount : BitVec 32) (s : State) : Host.Outcome State Fault Refusal :=
  s.request .settlement 0x11 fun s => s.answerTopup number.toNat amount.toNat

/-- STOP, R55. -/
def execStop (number : BitVec 32) (s : State) : Host.Outcome State Fault Refusal :=
  s.request .settlement 0x12 fun s => s.answerStop number.toNat

/-- QUERY_SESSION, R56. -/
def execQuerySession (outlet : Byte) (s : State) : Host.Outcome State Fault Refusal :=
  s.request .settlement 0x13 fun s => s.answerQuery outlet

/-- ARM_DEADLINE, R49. -/
def execArmDeadline (o : Outlet) (s : State) : Host.Outcome State Fault Refusal := s.event fun s => s.armDeadline o

/-- SUSPEND_DEADLINE, R52. -/
def execSuspendDeadline (o : Outlet) (s : State) : Host.Outcome State Fault Refusal :=
  s.event fun s => s.suspendDeadline o

/-- SETTLE_DEADLINE, R61. -/
def execSettleDeadline (o : Outlet) (s : State) : Host.Outcome State Fault Refusal :=
  s.event fun s => s.settleDeadline o

/-- IDLE_MINUTE_ACCRUAL, R83. -/
def execIdleMinuteAccrual (o : Outlet) (s : State) : Host.Outcome State Fault Refusal :=
  s.event fun s => s.idleAccrual o

end Sys2Proof.Machine
end

