-- ==== Sys2Proof/Machine/Dispatch.lean ====
section
/-! DEFINITION. The meaning of every command, one arm each. -/

namespace Sys2Proof.Machine

/-- The effect of a command on everything but the queue. -/
def exec (i : Instr) (s : State) : Host.Outcome State Fault Refusal :=
  match i with
  | .readStatus port => Sys2Proof.Machine.execReadStatus port s
  | .swapNotices port => Sys2Proof.Machine.execSwapNotices port s
  | .arm o hold plan cls ref => Sys2Proof.Machine.execArm o hold plan cls ref s
  | .topup session amount => Sys2Proof.Machine.execTopup session amount s
  | .stop session => Sys2Proof.Machine.execStop session s
  | .querySession o => Sys2Proof.Machine.execQuerySession o s
  | .peekClosure => Sys2Proof.Machine.execPeekClosure s
  | .releaseClosure session => Sys2Proof.Machine.execReleaseClosure session s
  | .writePlan plan fee idle grace count bands => Sys2Proof.Machine.execWritePlan plan fee idle grace count bands s
  | .readPlan plan => Sys2Proof.Machine.execReadPlan plan s
  | .invalidatePlan plan => Sys2Proof.Machine.execInvalidatePlan plan s
  | .setCap cap validity => Sys2Proof.Machine.execSetCap cap validity s
  | .timeRef ref => Sys2Proof.Machine.execTimeRef ref s
  | .configWrite item index value => Sys2Proof.Machine.execConfigWrite item index value s
  | .configRead item index => Sys2Proof.Machine.execConfigRead item index s
  | .startPark => Sys2Proof.Machine.execStartPark s
  | .stopPark => Sys2Proof.Machine.execStopPark s
  | .moduleServiceOut m direction => Sys2Proof.Machine.execModuleServiceOut m direction s
  | .moduleServiceIn m => Sys2Proof.Machine.execModuleServiceIn m s
  | .moduleClear m => Sys2Proof.Machine.execModuleClear m s
  | .readSite => Sys2Proof.Machine.execReadSite s
  | .readOutlet o => Sys2Proof.Machine.execReadOutlet o s
  | .readCounters clear part => Sys2Proof.Machine.execReadCounters clear part s
  | .readCountersClear part => Sys2Proof.Machine.execReadCountersClear part s
  | .badFrame port frame => Sys2Proof.Machine.execBadFrame port frame s
  | .unknownRequest port frame => Sys2Proof.Machine.execUnknownRequest port frame s
  | .responseOverrun port => Sys2Proof.Machine.execResponseOverrun port s
  | .requestGapTimeout port received => Sys2Proof.Machine.execRequestGapTimeout port received s
  | .responseSent port => Sys2Proof.Machine.execResponseSent port s
  | .confirm m route => Sys2Proof.Machine.execConfirm m route s
  | .faultOn m => Sys2Proof.Machine.execFaultOn m s
  | .faultOff m => Sys2Proof.Machine.execFaultOff m s
  | .cabinetFrameError frame => Sys2Proof.Machine.execCabinetFrameError frame s
  | .unusableMessage frame => Sys2Proof.Machine.execUnusableMessage frame s
  | .cabinetGapTimeout received => Sys2Proof.Machine.execCabinetGapTimeout received s
  | .cabinetMessageSent => Sys2Proof.Machine.execCabinetMessageSent s
  | .reportFrame o body ended => Sys2Proof.Machine.execReportFrame o body ended s
  | .gapTimeOut o chars => Sys2Proof.Machine.execGapTimeOut o chars s
  | .rejectedCharacter framing => Sys2Proof.Machine.execRejectedCharacter framing s
  | .unaddressedFrame addr ended => Sys2Proof.Machine.execUnaddressedFrame addr ended s
  | .unaddressedCharacter => Sys2Proof.Machine.execUnaddressedCharacter s
  | .openingBegin => Sys2Proof.Machine.execOpeningBegin s
  | .openingEnd => Sys2Proof.Machine.execOpeningEnd s
  | .replyWindowClose => Sys2Proof.Machine.execReplyWindowClose s
  | .cycleExpiry wireQuiet => Sys2Proof.Machine.execCycleExpiry wireQuiet s
  | .pulseTaken o => Sys2Proof.Machine.execPulseTaken o s
  | .runt o => Sys2Proof.Machine.execRunt o s
  | .armDeadline o => Sys2Proof.Machine.execArmDeadline o s
  | .suspendDeadline o => Sys2Proof.Machine.execSuspendDeadline o s
  | .settleDeadline o => Sys2Proof.Machine.execSettleDeadline o s
  | .idleMinuteAccrual o => Sys2Proof.Machine.execIdleMinuteAccrual o s
  | .trimAdjustment => Sys2Proof.Machine.execTrimAdjustment s
  | .holdoverDeadline => Sys2Proof.Machine.execHoldoverDeadline s
  | .targetExpiry => Sys2Proof.Machine.execTargetExpiry s
  | .switchTimeout m => Sys2Proof.Machine.execSwitchTimeout m s
  | .warmUpDeadline m => Sys2Proof.Machine.execWarmUpDeadline m s
  | .drainDeadline m => Sys2Proof.Machine.execDrainDeadline m s
  | .openingTimeout m => Sys2Proof.Machine.execOpeningTimeout m s
  | .reset => Sys2Proof.Machine.execReset s
  | .pulseLeadingEdge o => Sys2Proof.Machine.execPulseLeadingEdge o s
  | .pulseInputHigh o => Sys2Proof.Machine.execPulseInputHigh o s
  | .elapsedMillisecond => Sys2Proof.Machine.execElapsedMillisecond s
  | .reportDiscard o chars ended => Sys2Proof.Machine.execReportDiscard o chars ended s
  | .lineSeenHigh => Sys2Proof.Machine.execLineSeenHigh s
  | .resetRelease => Sys2Proof.Machine.execResetRelease s

end Sys2Proof.Machine
end

