-- ==== Sys2Proof/Safety.lean ====
section
/-! DEFINITION. The properties of a state that the part keeps: what the statements about every step rest on. -/

namespace Sys2Proof.Safety

open Sys2Proof.Machine

/-! ### Words the statements share -/

/-- R167: the part is not held in reset and the port has room for a response. -/
def Listening (s : State) (p : PortId) : Prop :=
  s.held = false ∧ (s.port p).responses.length < Config.responseRoom

/-- The entry of the first condition of a table that holds. -/
def firstOf {α : Type} : List (Bool × α) → Option α
  | [] => none
  | (true, a) :: _ => some a
  | (false, _) :: rest => firstOf rest

/-- R41 to R55: the outlet's slot holds this session, and no other slot holds its number. -/
def HoldsNumber (s : State) (o : Outlet) (ses : Session) (number : Nat) : Prop :=
  s.slot o = some ses ∧ ses.number = number ∧ ∀ p v, s.slot p = some v → v.number = number → p = o

/-- R53, R55: no slot holds a session with this number. -/
def NoSlotHolds (s : State) (number : Nat) : Prop := ∀ p v, s.slot p = some v → v.number ≠ number

/-- R142: the state an outlet release leaves an assigned module in. -/
def afterRelease (s : State) : ModuleState → ModuleState
  | .switching o d _ => .switching o d true
  | .warming o _ => .opening o (s.clock.elapsed + s.control.park.switchTimeout)
  | .active o => .draining o (s.clock.elapsed + s.control.park.drainTime)
  | .draining o d => .draining o d
  | .opening o d => .opening o d
  | .outOfService => .outOfService
  | .free => .free
  | .faulted r => .faulted r

/-- R151: an UNROUTE for the module is being sent or waits. -/
def UnrouteGoes (t : State) (m : ModuleNo) : Prop :=
  t.pool.cabinet.sending = some (.unroute m) ∨ .unroute m ∈ t.pool.cabinet.waiting

/-- R142, R47: the pool after an outlet release. -/
def Released (s t : State) (o : Outlet) : Prop :=
  (∀ m, t.module m =
    if (s.module m).state.assigned = some o then { s.module m with state := afterRelease s (s.module m).state }
    else s.module m) ∧
    (∀ m d, (s.module m).state = .warming o d → UnrouteGoes t m) ∧
    ((∀ m d, (s.module m).state ≠ .warming o d) → t.pool.cabinet = s.pool.cabinet) ∧
    t.pool.cabinet.rx = s.pool.cabinet.rx ∧ t.pool.cabinet.frameErrors = s.pool.cabinet.frameErrors ∧
    t.pool.cabinet.unusable = s.pool.cabinet.unusable ∧
    t.pool.cabinet.unexpectedConfirms = s.pool.cabinet.unexpectedConfirms ∧ t.pool.shortfalls = s.pool.shortfalls

/-- R59, R145: the slot of an outlet that a module has just left: a STOPPING session whose outlet holds no module any more gets its
settle deadline. -/
def SettleReported (s t : State) (o : Outlet) : Prop :=
  t.slot o = (s.slot o).map fun ses =>
    match ses.state with
    | .stopping reason time none =>
      if t.outletHolds o then ses
      else { ses with state := .stopping reason time (some (s.clock.elapsed + s.control.park.settleWindow)) }
    | _ => ses

/-! ### The checks of START_PARK, R10 -/

/-- Check 1. -/
def PowersSet (c : ModeControl) : Prop :=
  c.park.moduleRating.isSome = true ∧ c.park.siteRamp.isSome = true ∧ c.park.fallbackCap.isSome = true

/-- Check 2. -/
def SomePresent (c : ModeControl) : Prop := ∃ o : Outlet, c.outlets[o].present = true

/-- Check 3, at one outlet. -/
def OutletPasses (c : ModeControl) (o : Outlet) : Prop :=
  c.outlets[o].present = true →
    ∃ rating hi lo ramp, c.park.moduleRating = some rating ∧ c.outlets[o].maximum = some hi ∧
      c.outlets[o].minimum = some lo ∧ c.outlets[o].ramp = some ramp ∧ lo ≤ hi ∧ lo ≤ ramp ∧
      hi ≤ c.outlets[o].moduleLimit * rating

/-- Check 4, at one module. -/
def ModulePasses (c : ModeControl) (m : ModuleNo) : Prop :=
  c.modules[m].inService = true →
    c.modules[m].reach ≠ 0 ∧ ∀ o, OutletSet.has c.modules[m].reach o = true → c.outlets[o].present = true

/-- Check 5, at one outlet. -/
def OutletReached (c : ModeControl) (o : Outlet) : Prop :=
  c.outlets[o].present = true →
    ∃ m : ModuleNo, c.modules[m].inService = true ∧ OutletSet.has c.modules[m].reach o = true

/-- Check 6. -/
def CycleLongEnough (c : ModeControl) : Prop := 16 * c.park.slotLength + 10 ≤ c.park.cyclePeriod

/-! ### Layouts, R133, R134, R173 to R175 -/

/-- R175: the settlement notices. -/
def settlementLayout (n : SettlementNotices) : List Byte :=
  BitVec.ofNat 8 ((if n.closureReady then 1 else 0) + (if n.charging = 0 then 0 else 2) +
      (if n.suspended = 0 then 0 else 4) + (if n.stopping = 0 then 0 else 8) + (if n.fundsLow = 0 then 0 else 16) +
      if n.strayEnergy = 0 then 0 else 32) ::
    toBytes 2 n.charging.toNat ++ toBytes 2 n.suspended.toNat ++ toBytes 2 n.stopping.toNat ++
    toBytes 2 n.fundsLow.toNat ++ toBytes 2 n.strayEnergy.toNat

/-- R175: the site notices. -/
def siteNoticeLayout (n : SiteNotices) : List Byte :=
  BitVec.ofNat 8 ((if n.capExpired then 1 else 0) + (if n.moduleFault = 0 then 0 else 2) +
      (if n.timeHoldover then 4 else 0) + (if n.timeStepped then 8 else 0) + (if n.overdraw = 0 then 0 else 16) +
      (if n.unreachable = 0 then 0 else 32) + if n.openingSkipped then 64 else 0) ::
    toBytes 4 n.moduleFault.toNat ++ toBytes 2 n.overdraw.toNat ++ toBytes 2 n.unreachable.toNat

/-- R173: the closure record, at offsets 0, 17, 42, 68, 100 and 114 on. -/
def recordLayout (r : ClosureRecord) : List Byte :=
  (toBytes 4 r.number ++ toBytes 1 r.outlet.val ++ r.paymentRef.toList) ++
    (toBytes 1 r.cls ++ toBytes 4 r.hold ++ toBytes 4 r.billed ++ toBytes 8 r.accrued ++ toBytes 8 r.overrun) ++
    (toBytes 4 r.feeCharged ++ toBytes 8 r.energyCharge ++ toBytes 2 r.energyRemainder ++ toBytes 8 r.idleCharge ++
      toBytes 4 r.idleMinutes) ++
    (toBytes 4 r.pulseEnergy ++ toBytes 4 (r.meterDelta.getD 0) ++ toBytes 6 r.armTime ++
      toBytes 6 (r.chargeStart.getD 0) ++ toBytes 6 r.stopTime ++ toBytes 6 r.closureTime) ++
    ([r.endReason.code,
        BitVec.ofNat 8 ((if r.capped then 1 else 0) + (if r.meterDisagree then 2 else 0) +
          (if r.timeStepped then 4 else 0) + (if r.timeSlewed then 8 else 0) + if r.holdoverSeen then 16 else 0),
        BitVec.ofNat 8 ((if r.meterDelta.isSome then 1 else 0) + if r.chargeStart.isSome then 2 else 0)] ++
      toBytes 1 r.plan ++ toBytes 4 r.sessionFee ++ toBytes 4 r.idleFee ++ toBytes 1 r.grace ++
      toBytes 1 r.bands.length) ++
    r.bands.flatMap fun b => toBytes 2 b.start ++ toBytes 4 b.price ++ toBytes 4 b.subtotal

/-- R40: the fields of a session's state that R174 sends: the state, suspended-from and end reason bytes, stop time, the three
deadlines, and the record of CLOSED_WAIT. -/
structure StateView where
  codes : List Byte
  stopTime : Option Nat
  armDeadline : Option Nat
  suspendDeadline : Option Nat
  settleDeadline : Option Nat
  closure : Option ClosureRecord

/-- R168, R174: a state and the fields it has. -/
def stateView : SessionState → StateView
  | .armed d => ⟨[0, 0xFF, 0xFF], none, some d, none, none, none⟩
  | .charging => ⟨[1, 0xFF, 0xFF], none, none, none, none, none⟩
  | .parked => ⟨[2, 0xFF, 0xFF], none, none, none, none, none⟩
  | .suspended .charging d => ⟨[3, 1, 0xFF], none, none, some d, none, none⟩
  | .suspended .parked d => ⟨[3, 2, 0xFF], none, none, some d, none, none⟩
  | .stopping reason time settle => ⟨[4, 0xFF, reason.code], some time, none, none, settle, none⟩
  | .closedWait r _ => ⟨[5, 0xFF, r.endReason.code], some r.stopTime, none, none, none, some r⟩

/-- R174: the session view: the fixed part of 128 bytes and the bands. A deadline is sent as what remains of it, an absent field as
0. -/
def sessionViewLayout (ses : Session) (o : Outlet) (elapsed : Nat) : List Byte :=
  let v := stateView ses.state
  toBytes 4 ses.number ++ toBytes 1 o.val ++ v.codes ++ ses.paymentRef.toList ++ toBytes 1 ses.cls ++
    toBytes 4 ses.hold ++ toBytes 4 ((ses.charge.map (·.stamp)).getD 0) ++ toBytes 4 ses.feeCharged ++
    toBytes 8 ses.energyCharge ++ toBytes 2 ses.energyRemainder ++ toBytes 8 ses.idleCharge ++
    toBytes 4 ses.idleMinutes ++ toBytes 4 ses.pulseEnergy ++ toBytes 6 ses.parkedElapsed ++
    toBytes 4 ((ses.charge.map (·.meterStart)).getD 0) ++ toBytes 4 ((ses.charge.map (·.lastMeter)).getD 0) ++
    toBytes 6 ses.armTime ++ toBytes 6 ((ses.charge.map (·.startTime)).getD 0) ++ toBytes 6 (v.stopTime.getD 0) ++
    toBytes 4 (v.armDeadline.getD 0 - elapsed) ++ toBytes 4 (v.suspendDeadline.getD 0 - elapsed) ++
    toBytes 4 (v.settleDeadline.getD 0 - elapsed) ++ toBytes 4 ((v.closure.map (·.billed)).getD 0) ++
    toBytes 8 ((v.closure.map (·.overrun)).getD 0) ++
    [BitVec.ofNat 8 ((if (v.closure.map (·.capped)).getD false then 1 else 0) +
        (if (v.closure.map (·.meterDisagree)).getD false then 2 else 0) + (if ses.timeStepped then 4 else 0) +
        (if ses.timeSlewed then 8 else 0) + (if ses.holdoverSeen then 16 else 0) + if ses.fundsLowSent then 32 else 0),
      BitVec.ofNat 8 ((if ses.charge.isSome then 7 else 0) + (if v.stopTime.isSome then 8 else 0) +
        (if v.armDeadline.isSome then 16 else 0) + (if v.suspendDeadline.isSome then 32 else 0) +
        (if v.settleDeadline.isSome then 64 else 0) + if v.closure.isSome then 128 else 0)] ++
    toBytes 1 ses.tariff.plan ++ toBytes 4 ses.tariff.sessionFee ++ toBytes 4 ses.tariff.idleFee ++
    toBytes 1 ses.tariff.grace ++ toBytes 1 ses.tariff.bands.length ++
    (ses.tariff.bands.zip ses.bandSubtotals).flatMap fun b =>
      toBytes 2 b.1.start ++ toBytes 4 b.1.price ++ toBytes 4 b.2

/-- R168, R170: the fault reason byte of a module. -/
def reasonByte : ModuleState → Byte
  | .faulted .cabinetFault => 0
  | .faulted .confirmTimeout => 1
  | .faulted .routeMismatch => 2
  | _ => 0xFF

/-- R134, R170: the site. -/
def siteLayout (s : State) : List Byte :=
  (match s.dispatcher.capTarget with
    | none => [0xFF, 0xFF, 0, 0, 0, 0]
    | some t => toBytes 2 t.cap ++ toBytes 4 (t.expiry - s.clock.elapsed)) ++
    toBytes 2 s.dispatcher.effectiveCap ++ toBytes 2 s.dispatcher.available ++
    toBytes 2 (s.control.park.moduleRating.getD 0 * allModules.countP fun m => (s.module m).healthy) ++
    toBytes 2 (allOutlets.map fun o => (s.record o).grant).sum ++
    toBytes 4 (((allOutlets.filter fun o => s.present o).filterMap fun o => (s.exchange o).heldReport).map
      (·.measured)).sum ++
    (allModules.map fun m => (s.module m).state.code) ++ allModules.map fun m => reasonByte (s.module m).state

/-- R133, R170: an outlet. -/
def outletLayout (s : State) (o : Outlet) : List Byte :=
  let count (inState : ModuleState → Bool) := toBytes 1 (allModules.countP fun m => inState (s.module m).state)
  toBytes 2 (s.record o).demand ++ toBytes 2 (s.record o).ceiling ++ toBytes 2 (s.record o).minimum ++
    toBytes 2 (s.record o).grant ++ [(s.record o).admission.code] ++ toBytes 1 (s.record o).excess ++
    toBytes 2 (s.link o).published ++
    count (fun | .switching p _ _ => p == o | _ => false) ++ count (fun | .warming p _ => p == o | _ => false) ++
    count (fun | .active p => p == o | _ => false) ++ count (fun | .draining p _ => p == o | _ => false) ++
    count (fun | .opening p _ => p == o | _ => false) ++
    toBytes 4 s.pool.shortfalls[o] ++ toBytes 1 (s.link o).miss ++ [(s.link o).link.code]

/-! ### The mode, R2, R9 to R16 -/

/-- R15, R16: nothing of a park in use at an outlet: its slot is VACANT, its dispatch record is the starting record, no report is
LATEST or HELD, its link is UNKNOWN with no misses. -/
def OutletAtRest (s : State) (o : Outlet) : Prop :=
  s.slot o = none ∧ s.record o = .starting ∧ (s.exchange o).latest = none ∧ (s.exchange o).held = none ∧
    (s.link o).link = .unknown ∧ (s.link o).miss = 0

/-- R2, R13, R15: in MAINTENANCE the cycle timer is stopped, no opening pends, every outlet is at rest, no module is assigned and
there is no power to share. -/
def MaintenanceAtRest (s : State) : Prop :=
  s.control.mode = .maintenance →
    s.control.cycleTimer = none ∧ s.line.openingPending = false ∧ s.dispatcher.effectiveCap = 0 ∧
      s.dispatcher.available = 0 ∧ (∀ o, OutletAtRest s o) ∧ ∀ m, (s.module m).state.assigned = none

/-- R10, R13: in OPERATING the cycle timer runs and the configuration passes every check of START_PARK. -/
def OperatingIsValid (s : State) : Prop :=
  s.control.mode = .operating → s.control.cycleTimer.isSome ∧ s.control.failedCheck = none

/-- R16: an outlet that is not present takes no part. -/
def AbsentAtRest (s : State) : Prop := ∀ o, s.present o = false → OutletAtRest s o

/-- What the mode and the present items say of the rest of the state. -/
def ModeInv (s : State) : Prop := MaintenanceAtRest s ∧ OperatingIsValid s ∧ AbsentAtRest s

/-! ### The report exchange, R102 -/

/-- R102: the three roles lie on distinct buffers, and a buffer holds a report exactly when it is LATEST or HELD. -/
def RolesDistinct (x : Exchange) : Prop :=
  x.latest ≠ some x.writing ∧ x.held ≠ some x.writing ∧ (x.latest = none ∨ x.latest ≠ x.held) ∧
    ∀ b : Fin 3, x.buffers[b].isSome = true ↔ x.latest = some b ∨ x.held = some b

def ExchangeInv (s : State) : Prop := ∀ o, RolesDistinct (s.exchange o)

/-! ### The module pool, R135 to R151 -/

/-- R136, R137, R146, R148: what one module's record keeps: it is assigned only within its reach, only a module that is assigned
or FAULTED is marked leaving service, and a module whose fault is on is out of use. -/
def ModuleOk (m : Module) : Prop :=
  (∀ o, m.state.assigned = some o → OutletSet.has m.reach o = true) ∧
    (m.leaving = true → m.state.assigned.isSome = true ∨ ∃ r, m.state = .faulted r) ∧
    (m.indication = .faultOn → m.state = .outOfService ∨ m.state = .faulted .cabinetFault)

/-- R128, R129: no outlet's holding exceeds its module limit. -/
def HoldingWithinLimit (s : State) : Prop := ∀ o, s.holding o ≤ (s.outletItems o).moduleLimit

def PoolInv (s : State) : Prop := (∀ m, ModuleOk (s.module m)) ∧ HoldingWithinLimit s

/-- R151: at most one message of a module waits, and none waits while the link is idle. -/
def CabinetInv (s : State) : Prop :=
  (s.pool.cabinet.waiting.map CabinetMsg.module).Nodup ∧
    (s.pool.cabinet.sending = none → s.pool.cabinet.waiting = [])

/-- R137, R142: the outlet a module serves or is on its way to serve; none once a release has reached it. -/
def servingOutlet : ModuleState → Option Outlet
  | .switching o _ false => some o
  | .switching _ _ true => none
  | .warming o _ => some o
  | .active o => some o
  | .draining _ _ => none
  | .opening _ _ => none
  | .outOfService => none
  | .free => none
  | .faulted _ => none

/-- R47: a module serves an outlet only while the outlet's session is in CHARGING. -/
def ServesCharging (s : State) : Prop :=
  ∀ m o, servingOutlet (s.module m).state = some o → s.isCharging o = true

/-- R57, R59: a STOPPING session has its settle deadline exactly when its outlet holds no module. -/
def SettleMatchesHolding (s : State) : Prop :=
  ∀ o ses r t d, s.slot o = some ses → ses.state = .stopping r t d → (d.isSome = true ↔ s.outletHolds o = false)

def ReleaseInv (s : State) : Prop := ServesCharging s ∧ SettleMatchesHolding s

/-! ### Money, R32, R40, R70, R81, R93 -/

/-- R81: the energy billed in each band at the band's price, in thousandths of a fu. -/
def pricedEnergy : List Band → List Nat → Nat
  | b :: bs, n :: ns => b.price * n + pricedEnergy bs ns
  | [], _ => 0
  | _ :: _, [] => 0

/-- R40, R70, R81: pulse energy is the sum of the band subtotals, and energy charge and remainder are exactly their price. -/
def SessionPriced (ses : Session) : Prop :=
  bandsWellFormed ses.tariff.bands = true ∧ ses.bandSubtotals.length = ses.tariff.bands.length ∧
    ses.pulseEnergy = ses.bandSubtotals.sum ∧ ses.pulseEnergy ≤ max32 ∧ ses.energyRemainder < 1000 ∧
    ses.energyCharge * 1000 + ses.energyRemainder = pricedEnergy ses.tariff.bands ses.bandSubtotals ∧
    ses.hold ≤ Config.maxHold

/-- R93, R154: a closure record bills no more than the hold, and its parts add up. -/
def RecordPriced (r : ClosureRecord) : Prop :=
  r.billed ≤ r.hold ∧ r.accrued = r.feeCharged + r.energyCharge + r.idleCharge ∧
    r.pulseEnergy = (r.bands.map (·.subtotal)).sum ∧ r.energyRemainder < 1000 ∧
    r.energyCharge * 1000 + r.energyRemainder = (r.bands.map fun b => b.price * b.subtotal).sum

/-- R62: the record a CLOSED_WAIT session holds. -/
def WaitingRecordPriced (ses : Session) : Prop := ∀ r t, ses.state = .closedWait r t → RecordPriced r

def MoneyInv (s : State) : Prop :=
  (∀ n, bandsWellFormed (s.plan n).bands = true) ∧
    (∀ o ses, s.slot o = some ses → SessionPriced ses ∧ WaitingRecordPriced ses) ∧
    ∀ r ∈ s.closures, RecordPriced r

/-! ### Session numbers, R39 -/

/-- R39: the numbers in slots and in the closure queue are distinct, the next number is held by neither, and every number is from
1 to 2^32 − 1; a waiting record carries its session's number. -/
def NumbersInv (s : State) : Prop :=
  s.heldNumbers.Nodup ∧ s.sessions.nextNumber ∉ s.heldNumbers ∧
    (∀ n ∈ s.sessions.nextNumber :: s.heldNumbers, 1 ≤ n ∧ n ≤ max32) ∧
    ∀ o ses r t, s.slot o = some ses → ses.state = .closedWait r t → r.number = ses.number

/-! ### The clock, R19 to R28 -/

def ClockInv (s : State) : Prop :=
  s.clock.elapsed ≤ max48 ∧ s.clock.parkTime ≤ max48 ∧ -500 ≤ s.clock.trim ∧ s.clock.trim ≤ 500 ∧
    (s.clock.trim = 0 → s.clock.adjust = 0) ∧
    (s.clock.trim ≠ 0 → s.clock.adjust < adjustInterval s.clock.trim) ∧
    (s.clock.slewing = true → s.clock.trim = -500) ∧
    (s.clock.sync = .synced ↔ s.clock.holdoverDeadline.isSome = true)

/-! ### Dispatch, R120 to R127 -/

/-- R123, R125, R127: a minimum lies within its ceiling, a grant between them when admitted, and is 0 otherwise. -/
def RecordGranted (r : DispatchRecord) : Prop :=
  r.minimum ≤ r.ceiling ∧ r.grant ≤ r.ceiling ∧ (r.admission ≠ .admitted → r.grant = 0)

/-- R120, R127: the grants sum to no more than A, and A is within the effective cap. -/
def GrantInv (s : State) : Prop :=
  (∀ o, RecordGranted (s.record o)) ∧ s.sumOfGrants ≤ s.dispatcher.available ∧
    s.dispatcher.available ≤ s.dispatcher.effectiveCap

/-! ### Capacities and saturating counters -/

/-- R155, R167, R76, R105, R130: the queues keep within their room, and the small counters within their range. -/
def RoomInv (s : State) : Prop :=
  s.closures.length ≤ Config.closureRoom ∧ s.ports.settlement.responses.length ≤ Config.responseRoom ∧
    s.ports.site.responses.length ≤ Config.responseRoom ∧ (∀ o, (s.meter o).overdraw ≤ 3) ∧
    (∀ o, (s.link o).miss ≤ 255) ∧ (∀ o, (s.record o).excess ≤ 255) ∧ s.line.cycleNumber < 65536

/-- R156, R160: a session waits for the closure queue only while the queue is full. -/
def WaitsOnlyWhenFull (s : State) : Prop :=
  ∀ o ses r t, s.slot o = some ses → ses.state = .closedWait r t → s.closures.length = Config.closureRoom

/-- Every property above. -/
def Inv (s : State) : Prop :=
  ModeInv s ∧ ExchangeInv s ∧ PoolInv s ∧ CabinetInv s ∧ ReleaseInv s ∧ MoneyInv s ∧ NumbersInv s ∧ ClockInv s ∧
    GrantInv s ∧ RoomInv s ∧ WaitsOnlyWhenFull s

end Sys2Proof.Safety
end

