-- ==== Sys2Proof/Certificates/Slice0/Obligations.lean ====
section
/-! DEFINITION. The statements about the model, one `Prop` each, in the order of OBLIGATIONS.json. -/

open Sys2Proof Sys2Proof.Machine Sys2Proof.Safety

/-! ### The queue, reset -/

/-- A step runs the command at the front of the queue on the queue's rest; on an empty queue the block idles (log 3). -/
def Obligations.StepRunsFrontCommand : Prop :=
  (∀ (c : Instr) (rest : List Instr) (s : State), s.pending = c :: rest → step s = exec c { s with pending := rest }) ∧
    ∀ s : State, s.pending = [] → step s = .next s

/-- No command stops the part: a request is answered by a status, an event has its effect or has not occurred. -/
def Obligations.EveryCommandAnswersNext : Prop := ∀ (c : Instr) (s : State), ∃ t, exec c s = .next t

/-- A command leaves the queue of commands as it was. -/
def Obligations.CommandsKeepTheQueue : Prop :=
  ∀ (c : Instr) (s t : State), exec c s = .next t → t.pending = s.pending

/-- R18 to R20: RESET brings every block to its reset state and holds the part; while held, nothing but RESET and RESET_RELEASE has
an effect; the release starts both times from 0. The queue of waiting commands (log 4) and the count of free values drawn
(log 6) are the model's own, and RESET keeps them. -/
def Obligations.ResetHoldsThePart : Prop :=
  (∀ s : State, exec .reset s = .next { State.reset with
    held := true
    clock := { State.reset.clock with freeDraws := s.clock.freeDraws }
    pending := s.pending }) ∧
    (∀ s : State, s.held = true →
      exec .resetRelease s =
        .next { s with held := false, clock := { s.clock with elapsed := 0, parkTime := 0 } }) ∧
    ∀ (c : Instr) (s : State), s.held = true → c ≠ .reset → c ≠ .resetRelease → exec c s = .next s

/-- R2 to R4, R13, R18 to R22, R32, R39, R64, R96, R101, R102, R106, R115, R135, R151, R161, R165, R167: what reset leaves. -/
def Obligations.ResetValues : Prop :=
  State.reset.control.mode = .maintenance ∧ State.reset.control.cycleTimer = none ∧
    State.reset.control.park =
      { cyclePeriod := 500, slotLength := 8, moduleRating := none, auxReserve := 0, siteRamp := none,
        fallbackCap := none, missLimit := 4, resumeLimit := 60, armTimeout := 180, settleWindow := 2000,
        guardEnergy := 50, fundsWarning := 2000, minimumHold := 500, stepThreshold := 2000, filterDepth := 3,
        holdoverTime := 600, releaseHold := 6, switchTimeout := 300, warmUpTime := 1500, drainTime := 800 } ∧
    (∀ o, State.reset.outletItems o =
      { present := false, maximum := none, minimum := none, ramp := none, moduleLimit := 1, pulseWeight := 10,
        pulseMinWidth := 5 }) ∧
    (∀ m : ModuleNo, State.reset.control.modules[m] = { inService := false, reach := 0 }) ∧
    State.reset.clock.elapsed = 0 ∧ State.reset.clock.parkTime = 0 ∧ State.reset.clock.trim = 0 ∧
    State.reset.clock.sync = .unsynced ∧ State.reset.clock.slewing = false ∧
    State.reset.clock.holdoverDeadline = none ∧
    (∀ n, State.reset.plan n =
      { valid := false, sessionFee := 0, idleFee := 0, grace := 0, bands := [{ start := 0, price := 0 }] }) ∧
    (∀ o, State.reset.slot o = none) ∧ State.reset.sessions.nextNumber = 1 ∧ State.reset.sessions.nextStamp = 1 ∧
    (∀ o, State.reset.meter o = { filter := .start, pulses := 0, runts := 0, stray := 0, overdraw := 0 }) ∧
    (∀ o, State.reset.exchange o =
      { buffers := Vector.replicate 3 none, writing := 0, latest := none, held := none }) ∧
    (∀ o, State.reset.link o = { link := .unknown, miss := 0, published := 0, discards := 0 }) ∧
    State.reset.line.cycleNumber = 0 ∧ State.reset.line.openingPending = false ∧
    State.reset.line.rx = .awaitingHigh ∧ State.reset.dispatcher.capTarget = none ∧
    State.reset.dispatcher.effectiveCap = 0 ∧ State.reset.dispatcher.available = 0 ∧
    (∀ o, State.reset.record o =
      { demand := 0, ceiling := 0, minimum := 0, grant := 0, admission := .none, excess := 0 }) ∧
    (∀ m, State.reset.module m = { state := .outOfService, reach := 0, leaving := false, indication := .none }) ∧
    State.reset.pool.cabinet.waiting = [] ∧ State.reset.closures = [] ∧
    (∀ p, State.reset.noticesEmpty p = true ∧ State.reset.attention p = false) ∧
    ∀ p, State.reset.port p = { rx := .hunting, responses := [], gaps := 0, overruns := 0 }

/-- The machine after reset has every property of Safety.lean. -/
def Obligations.ResetHasEveryProperty : Prop := Inv State.reset

/-! ### The request ports, R165 to R167 and R171 -/

/-- R167: a response joins the tail of its port's queue and changes nothing else but the receiver; when a response has been sent the
next one is at the head. -/
def Obligations.ResponsesLeaveInOrder : Prop :=
  (∀ (s : State) (p : PortId) (code : Byte) (status : Status) (payload : List Byte),
    ((s.respond p code status payload).port p =
        { s.port p with rx := .hunting, responses := (s.port p).responses ++ [⟨code, status, payload⟩] }) ∧
      (∀ q, q ≠ p → (s.respond p code status payload).port q = s.port q) ∧
      (s.respond p code status payload).ports.snapshot = s.ports.snapshot ∧
      { s.respond p code status payload with ports := s.ports } = s) ∧
    ∀ (s : State) (p : PortId) (r : Response) (rest : List Response), s.held = false →
      (s.port p).responses = r :: rest →
      exec (.responseSent p) s = .next (s.setPort p { s.port p with responses := rest })

/-- R167: a frame that completes while 8 responses are held is not judged: the overrun counter rises, saturating. -/
def Obligations.FullPortCountsAnOverrun : Prop :=
  ∀ (s : State) (p : PortId), s.held = false → Config.responseRoom ≤ (s.port p).responses.length →
    (∀ (c : Instr) (code : Byte) (payload : List Byte), encodeRequest c = some (p, code, payload) →
      exec c s = .next (s.setPort p
        { s.port p with rx := .hunting, overruns := min ((s.port p).overruns + 1) max32 })) ∧
      exec (.responseOverrun p) s = .next (s.setPort p
        { s.port p with rx := .hunting, overruns := min ((s.port p).overruns + 1) max32 }) ∧
      ∀ f : RawFrame, f.complete = true →
        exec (.badFrame p f) s = .next (s.setPort p
          { s.port p with rx := .hunting, overruns := min ((s.port p).overruns + 1) max32 }) ∧
        exec (.unknownRequest p f) s = .next (s.setPort p
          { s.port p with rx := .hunting, overruns := min ((s.port p).overruns + 1) max32 })

/-- R166, orders 1 to 5: a complete frame with a bad length, a bad check or a payload length its code does not allow is answered 0xFF
and BAD_FRAME; one whose code the port does not know is answered with the code and UNKNOWN_REQUEST. -/
def Obligations.FramesWithoutOwnerAnswered : Prop :=
  ∀ (s : State) (p : PortId) (f : RawFrame), Listening s p → f.complete = true →
    (f.length = 0#8 ∨ 196 < f.length.toNat →
      exec (.badFrame p f) s = .next (s.respond p 0xFF .badFrame [])) ∧
    (f.checkOk = false → exec (.badFrame p f) s = .next (s.respond p 0xFF .badFrame [])) ∧
    (f.length ≠ 0#8 → f.length.toNat ≤ 196 → f.checkOk = true →
      (acceptsCode p (byteAt f.rest 0).toNat = false →
        exec (.unknownRequest p f) s = .next (s.respond p (byteAt f.rest 0) .unknownRequest [])) ∧
      (acceptsCode p (byteAt f.rest 0).toNat = true →
        requestOf p (byteAt f.rest 0).toNat (f.content.drop 1) = none →
        exec (.badFrame p f) s = .next (s.respond p 0xFF .badFrame [])))

/-- R165, R152: 10 ms without a next byte after any part of a frame but the whole discards it and raises the port's gap counter, or
the cabinet frame error counter. -/
def Obligations.GapTimeoutsCounted : Prop :=
  (∀ (s : State) (p : PortId) (received : List Byte), s.held = false → (s.port p).rx = .hunting →
    isPartialFrame received = true →
    exec (.requestGapTimeout p received) s =
      .next (s.setPort p { s.port p with gaps := min ((s.port p).gaps + 1) max32 })) ∧
    ∀ (s : State) (received : List Byte), s.held = false → s.pool.cabinet.rx = .hunting →
      isPartialFrame received = true →
      exec (.cabinetGapTimeout received) s =
        .next (s.setCabinet { s.pool.cabinet with frameErrors := min (s.pool.cabinet.frameErrors + 1) max32 })

/-- R171, R73, R101, R153, R167: READ_COUNTERS part 0 copies every counter into the snapshot, with the clear option the clearable ones
become 0 in the same event, every part is answered from the snapshot, and other options and parts are refused. -/
def Obligations.CountersReadAndCleared : Prop :=
  ∀ s : State, Listening s .site →
    exec (.readCounters 0 0) s =
      .next (({ s with ports := { s.ports with snapshot := s.counters } } : State).respond .site 0x3A .ok
        (s.counters.part 0)) ∧
    (∀ part : Byte, 1 ≤ part.toNat → part.toNat ≤ 3 →
      exec (.readCounters 0 part) s = .next (s.respond .site 0x3A .ok (s.ports.snapshot.part part.toNat))) ∧
    (∃ t : State, exec (.readCountersClear 0) s = .next (t.respond .site 0x3A .ok (s.counters.part 0)) ∧
      t.ports.snapshot = s.counters ∧
      (∀ o, t.meter o = { s.meter o with pulses := 0, runts := 0, stray := 0 }) ∧
      (∀ o, t.link o = { s.link o with discards := 0 }) ∧
      { t.line with outlets := s.line.outlets } =
        { s.line with lineErrors := 0, gapErrors := 0, unaddressed := 0, openingsSkipped := 0 } ∧
      t.pool.cabinet = { s.pool.cabinet with frameErrors := 0, unusable := 0, unexpectedConfirms := 0 } ∧
      t.pool.modules = s.pool.modules ∧ (∀ o : Outlet, t.pool.shortfalls[o] = 0) ∧
      (∀ p, t.port p = { s.port p with gaps := 0, overruns := 0 }) ∧
      { t with meters := s.meters, line := s.line, pool := s.pool, ports := s.ports } = s) ∧
    (∀ clear part : Byte, 1 < clear.toNat ∨ 3 < part.toNat →
      exec (.readCounters clear part) s = .next (s.respond .site 0x3A .badValue [])) ∧
    ∀ part : Byte, part ≠ 0 → exec (.readCountersClear part) s = .next (s.respond .site 0x3A .badValue [])

/-- R23, R56, R7, R133, R134, R168, R174: the reads answer from the state as it stands, in the layouts and codes given, and change
nothing but their port's responses. That the slewing flag is sent as 1 when set and 0 when clear is the model's choice (log 21), that
a cap target whose expiry has passed and has not been served shows no validity remaining too (log 23), and that a CLOSED_WAIT
session shows no settle deadline is the model's reading (log 13). -/
def Obligations.ReadsChangeNothingElse : Prop :=
  (∀ (s : State) (p : PortId), Listening s p →
    exec (.readStatus p) s = .next (s.respond p 0x01 .ok
      ([s.control.mode.code, s.clock.sync.code, BitVec.ofNat 8 s.clock.slewing.toNat] ++
        toBytes 6 s.clock.parkTime ++ toBytesInt 2 s.clock.trim))) ∧
    (∀ (s : State) (b : Byte), Listening s .settlement →
      (16 ≤ b.toNat → exec (.querySession b) s = .next (s.respond .settlement 0x13 .badValue [])) ∧
      ∀ o : Outlet, b.toNat = o.val →
        (s.slot o = none → exec (.querySession b) s = .next (s.respond .settlement 0x13 .empty [])) ∧
        ∀ ses, s.slot o = some ses →
          exec (.querySession b) s =
            .next (s.respond .settlement 0x13 .ok (sessionViewLayout ses o s.clock.elapsed))) ∧
    (∀ (s : State) (item index : Byte), Listening s .site →
      (ConfigRef.of item index = none →
        exec (.configRead item index) s = .next (s.respond .site 0x33 .badValue [])) ∧
      ∀ r, ConfigRef.of item index = some r →
        (s.control.read r = none →
          exec (.configRead item index) s = .next (s.respond .site 0x33 .ok (0 :: toBytes 4 0))) ∧
        ∀ v, s.control.read r = some v →
          exec (.configRead item index) s = .next (s.respond .site 0x33 .ok (1 :: toBytes 4 v))) ∧
    (∀ s : State, Listening s .site → exec .readSite s = .next (s.respond .site 0x38 .ok (siteLayout s))) ∧
    (∀ (s : State) (b : Byte), Listening s .site →
      (16 ≤ b.toNat → exec (.readOutlet b) s = .next (s.respond .site 0x39 .badValue [])) ∧
      ∀ o : Outlet, b.toNat = o.val → exec (.readOutlet b) s = .next (s.respond .site 0x39 .ok (outletLayout s o))) ∧
    [ParkMode.maintenance, .operating].map ParkMode.code = [0, 1] ∧
    [SyncState.unsynced, .synced, .holdover].map SyncState.code = [0, 1, 2] ∧
    [EndReason.user, .operator, .funds, .unplug, .pedestalFault, .linkLost, .noStart, .overdraw].map EndReason.code =
      [0, 1, 2, 3, 4, 5, 6, 7] ∧
    [LinkState.unknown, .online, .unreachable].map LinkState.code = [0, 1, 2] ∧
    [Admission.none, .admitted, .queued].map Admission.code = [0, 1, 2] ∧
    ∀ (a b : Outlet) (x y : Nat) (ooc : Bool) (r : FaultReason),
      [ModuleState.outOfService, .free, .switching a x ooc, .warming a x, .active a, .draining b y, .opening b y,
        .faulted r].map ModuleState.code = [0, 1, 2, 3, 4, 5, 6, 7]

/-! ### The tariff store, R32 to R36 -/

/-- R36: READ_PLAN. The bands stand in ascending order of start in every plan that is well formed, as `MoneyKept` says all are. That
the valid flag is sent as 1 for valid and 0 for invalid is the model's choice (log 21). -/
def Obligations.PlanRead : Prop :=
  (∀ (s : State) (b : Byte), Listening s .settlement →
    (8 ≤ b.toNat → exec (.readPlan b) s = .next (s.respond .settlement 0x17 .badValue [])) ∧
    ∀ n : Fin 8, b.toNat = n.val →
      exec (.readPlan b) s = .next (s.respond .settlement 0x17 .ok
        (BitVec.ofNat 8 (s.plan n).valid.toNat :: toBytes 4 (s.plan n).sessionFee ++ toBytes 4 (s.plan n).idleFee ++
          toBytes 1 (s.plan n).grace ++ toBytes 1 (s.plan n).bands.length ++
          (s.plan n).bands.flatMap fun b => toBytes 2 b.start ++ toBytes 4 b.price)) ∧
      (bandsWellFormed (s.plan n).bands = true → (s.plan n).bands.Pairwise fun a b => a.start < b.start)) ∧
    ∀ n, State.reset.plan n =
      { valid := false, sessionFee := 0, idleFee := 0, grace := 0, bands := [{ start := 0, price := 0 }] }

/-- R35: INVALIDATE_PLAN; and no command but WRITE_PLAN, INVALIDATE_PLAN and RESET changes a plan. -/
def Obligations.PlanInvalidated : Prop :=
  (∀ (s : State) (b : Byte), Listening s .settlement →
    (8 ≤ b.toNat → exec (.invalidatePlan b) s = .next (s.respond .settlement 0x18 .badValue [])) ∧
    ∀ n : Fin 8, b.toNat = n.val →
      ((s.plan n).valid = false → exec (.invalidatePlan b) s = .next (s.respond .settlement 0x18 .already [])) ∧
      ((s.plan n).valid = true →
        exec (.invalidatePlan b) s =
          .next (({ s with plans := s.plans.set n { s.plan n with valid := false } } : State).respond .settlement 0x18
            .ok []))) ∧
    ∀ (c : Instr) (s t : State), c ≠ .reset → (∀ b, c ≠ .invalidatePlan b) →
      (∀ b fee idle grace count bands, c ≠ .writePlan b fee idle grace count bands) → exec c s = .next t →
      t.plans = s.plans

/-- R34: WRITE_PLAN replaces the whole plan and makes it valid, or is refused with BAD_VALUE and changes nothing. -/
def Obligations.PlanWritten : Prop :=
  ∀ (s : State) (b : Byte) (fee idle : BitVec 32) (grace count : Byte) (bands : List Byte), Listening s .settlement →
    (8 ≤ b.toNat ∨ count.toNat = 0 ∨ 6 < count.toNat ∨ bands.length ≠ 6 * count.toNat ∨
        5000000 < fee.toNat ∨ 5000000 < idle.toNat ∨ 240 < grace.toNat ∨
        bandsWellFormed (bandsOf count.toNat bands) = false →
      exec (.writePlan b fee idle grace count bands) s = .next (s.respond .settlement 0x16 .badValue [])) ∧
    ∀ n : Fin 8, b.toNat = n.val → 1 ≤ count.toNat → count.toNat ≤ 6 → bands.length = 6 * count.toNat →
      fee.toNat ≤ 5000000 → idle.toNat ≤ 5000000 → grace.toNat ≤ 240 →
      bandsWellFormed (bandsOf count.toNat bands) = true →
      exec (.writePlan b fee idle grace count bands) s =
        .next ((s.setPlan n
          { valid := true, sessionFee := fee.toNat, idleFee := idle.toNat, grace := grace.toNat,
            bands := bandsOf count.toNat bands }).respond .settlement 0x16 .ok [])

/-! ### Closures and notices -/

/-- R158, R173: PEEK_CLOSURE, with the record in its layout. -/
def Obligations.ClosurePeeked : Prop :=
  ∀ s : State, Listening s .settlement →
    (s.closures = [] → exec .peekClosure s = .next (s.respond .settlement 0x14 .empty [])) ∧
    ∀ r rest, s.closures = r :: rest →
      exec .peekClosure s =
        .next (s.respond .settlement 0x14 .ok (BitVec.ofNat 8 s.closures.length :: recordLayout r))

/-- R159, R160, R157: RELEASE_CLOSURE, and the admission of the first waiting session. -/
def Obligations.ClosureReleased : Prop :=
  ∀ (s : State) (number : BitVec 32), Listening s .settlement →
    (s.closures = [] → exec (.releaseClosure number) s = .next (s.respond .settlement 0x15 .empty [])) ∧
    ∀ r rest, s.closures = r :: rest →
      (number.toNat ≠ r.number →
        exec (.releaseClosure number) s = .next (s.respond .settlement 0x15 .mismatch (toBytes 4 r.number))) ∧
      (number.toNat = r.number →
        ((∀ o ses q n, s.slot o = some ses → ses.state ≠ .closedWait q n) →
          exec (.releaseClosure number) s =
            .next (({ s with closures := rest } : State).respond .settlement 0x15 .ok (toBytes 1 rest.length))) ∧
        ∀ o ses q n, s.slot o = some ses → ses.state = .closedWait q n →
          (∀ o' ses' q' n', s.slot o' = some ses' → ses'.state = .closedWait q' n' → n < n' ∨ (n = n' ∧ o ≤ o')) →
          exec (.releaseClosure number) s =
            .next ((({ s with
                closures := rest ++ [q]
                notices := { s.notices with settlement.closureReady := true } } : State).setSlot o none).respond
              .settlement 0x15 .ok (toBytes 1 (rest.length + 1))))

/-- R163, R164, R175: SWAP_NOTICES hands its port's set over in its layout and empties it, and the attention line is deasserted; a
line is asserted exactly while its port's set holds a notice, and the part is not held in reset. -/
def Obligations.NoticesSwapped : Prop :=
  ∀ s : State,
    (Listening s .settlement →
      exec (.swapNotices .settlement) s =
        .next (({ s with notices := { s.notices with settlement := .empty } } : State).respond .settlement 0x02 .ok
          (settlementLayout s.notices.settlement))) ∧
    (Listening s .site →
      exec (.swapNotices .site) s =
        .next (({ s with notices := { s.notices with site := .empty } } : State).respond .site 0x02 .ok
          (siteNoticeLayout s.notices.site))) ∧
    (∀ p t, Listening s p → exec (.swapNotices p) s = .next t → t.attention p = false) ∧
    (s.attention .settlement = true ↔ s.held = false ∧
      (s.notices.settlement.closureReady = true ∨ s.notices.settlement.charging ≠ 0 ∨
        s.notices.settlement.suspended ≠ 0 ∨ s.notices.settlement.stopping ≠ 0 ∨ s.notices.settlement.fundsLow ≠ 0 ∨
        s.notices.settlement.strayEnergy ≠ 0)) ∧
    (s.attention .site = true ↔ s.held = false ∧
      (s.notices.site.capExpired = true ∨ s.notices.site.moduleFault ≠ 0 ∨ s.notices.site.timeHoldover = true ∨
        s.notices.site.timeStepped = true ∨ s.notices.site.overdraw ≠ 0 ∨ s.notices.site.unreachable ≠ 0 ∨
        s.notices.site.openingSkipped = true))

/-! ### Park Mode Control, R3 to R15 -/

/-- R5: CONFIG_WRITE, refused in its order or giving the item at its index the value, which CONFIG_READ then returns, and no other
item. -/
def Obligations.ConfigurationWritten : Prop :=
  ∀ (s : State) (item index : Byte) (value : BitVec 32), Listening s .site →
    (s.control.mode = .operating →
      exec (.configWrite item index value) s = .next (s.respond .site 0x32 .wrongMode [])) ∧
    (s.control.mode = .maintenance → ConfigRef.of item index = none →
      exec (.configWrite item index value) s = .next (s.respond .site 0x32 .badValue [])) ∧
    ∀ r, s.control.mode = .maintenance → ConfigRef.of item index = some r →
      (r.inRange value.toNat = false →
        exec (.configWrite item index value) s = .next (s.respond .site 0x32 .badValue [])) ∧
      (r.inRange value.toNat = true →
        ∃ c : ModeControl,
          exec (.configWrite item index value) s =
            .next (({ s with control := c } : State).respond .site 0x32 .ok []) ∧
          c.mode = s.control.mode ∧ c.cycleTimer = s.control.cycleTimer ∧ c.read r = some value.toNat ∧
          ∀ r', r' ≠ r → c.read r' = s.control.read r')

/-- R8, R9, R11, R12, R106: START_PARK: ALREADY, INVALID_CONFIG with the failing check, or the start of the park. -/
def Obligations.ParkStarted : Prop :=
  ∀ s : State, Listening s .site →
    (s.control.mode = .operating → exec .startPark s = .next (s.respond .site 0x34 .already [])) ∧
    (s.control.mode = .maintenance →
      (∀ check subject, s.control.failedCheck = some (check, subject) →
        exec .startPark s = .next (s.respond .site 0x34 .invalidConfig [check, subject])) ∧
      (s.control.failedCheck = none →
        ∃ t : State, exec .startPark s = .next (t.respond .site 0x34 .ok []) ∧
          t.control = { s.control with
            mode := .operating, cycleTimer := some (s.clock.elapsed + s.control.park.cyclePeriod) } ∧
          t.sessions = { s.sessions with nextStamp := 1 } ∧
          { t.line with outlets := s.line.outlets } = { s.line with cycleNumber := 0, openingPending := false } ∧
          (∀ o, t.link o = { s.link o with link := .unknown, miss := 0, published := 0 }) ∧
          (∀ o, t.exchange o = .reset) ∧ (∀ o, t.record o = .starting) ∧
          t.dispatcher.effectiveCap = 0 ∧ t.dispatcher.available = 0 ∧
          t.dispatcher.capTarget = s.dispatcher.capTarget ∧
          (∀ m : ModuleNo, t.module m =
            { s.module m with
              state := if s.control.modules[m].inService then
                  (if (s.module m).indication = .faultOn then .faulted .cabinetFault else .free) else .outOfService
              reach := s.control.modules[m].reach
              leaving := false }) ∧
          t.pool.cabinet = s.pool.cabinet ∧ t.pool.shortfalls = s.pool.shortfalls ∧
          { t with control := s.control, sessions := s.sessions, line := s.line, exchanges := s.exchanges,
                   dispatcher := s.dispatcher, pool := s.pool } = s))

/-- R10, R12: START_PARK's six checks all pass exactly when the configuration has the properties they name; and the check that is
reported is the first that fails, with the first outlet or module that fails it. -/
def Obligations.ConfigurationChecked : Prop :=
  ∀ c : ModeControl,
    (c.failedCheck = none ↔ PowersSet c ∧ SomePresent c ∧ (∀ o, OutletPasses c o) ∧ (∀ m, ModulePasses c m) ∧
      (∀ o, OutletReached c o) ∧ CycleLongEnough c) ∧
    (c.failedCheck = some (1, 0xFF) ↔ ¬PowersSet c) ∧
    (c.failedCheck = some (2, 0xFF) ↔ PowersSet c ∧ ¬SomePresent c) ∧
    (∀ o : Outlet, c.failedCheck = some (3, BitVec.ofNat 8 o.val) ↔ PowersSet c ∧ SomePresent c ∧
      ¬OutletPasses c o ∧ ∀ p, p < o → OutletPasses c p) ∧
    (∀ m : ModuleNo, c.failedCheck = some (4, BitVec.ofNat 8 m.val) ↔ PowersSet c ∧ SomePresent c ∧
      (∀ o, OutletPasses c o) ∧ ¬ModulePasses c m ∧ ∀ k, k < m → ModulePasses c k) ∧
    (∀ o : Outlet, c.failedCheck = some (5, BitVec.ofNat 8 o.val) ↔ PowersSet c ∧ SomePresent c ∧
      (∀ p, OutletPasses c p) ∧ (∀ m, ModulePasses c m) ∧ ¬OutletReached c o ∧ ∀ p, p < o → OutletReached c p) ∧
    (c.failedCheck = some (6, 0xFF) ↔ PowersSet c ∧ SomePresent c ∧ (∀ o, OutletPasses c o) ∧
      (∀ m, ModulePasses c m) ∧ (∀ o, OutletReached c o) ∧ ¬CycleLongEnough c)

/-- R14, R15, R102: STOP_PARK, refused in its order or stopping the park. A frame begun and not ended is told by the rows of the
line (log 10). -/
def Obligations.ParkStopped : Prop :=
  ∀ s : State, Listening s .site →
    (∀ status, firstOf
        [(s.control.mode == .maintenance, Status.already), (allOutlets.any fun o => (s.slot o).isSome, .liveSessions),
         (allModules.any fun m => (s.module m).state.assigned.isSome, .modulesMoving)] = some status →
      exec .stopPark s = .next (s.respond .site 0x35 status [])) ∧
    (s.control.mode = .operating → (∀ o, s.slot o = none) → (∀ m, (s.module m).state.assigned = none) →
      ∃ t : State, exec .stopPark s = .next (t.respond .site 0x35 .ok []) ∧
        t.control = { s.control with mode := .maintenance, cycleTimer := none } ∧
        { t.line with outlets := s.line.outlets } = { s.line with openingPending := false } ∧
        (∀ o, t.link o = { s.link o with link := .unknown, miss := 0 }) ∧
        (∀ o, (t.exchange o).latest = none ∧ (t.exchange o).held = none ∧
          (t.exchange o).buffers = Vector.replicate 3 none ∧
          (t.exchange o).writing =
            if s.line.rx = .assembling (BitVec.ofNat 8 o.val) then (s.exchange o).writing else 0) ∧
        (∀ o, t.record o = .starting) ∧ t.dispatcher.effectiveCap = 0 ∧ t.dispatcher.available = 0 ∧
        t.dispatcher.capTarget = s.dispatcher.capTarget ∧
        { t with control := s.control, line := s.line, exchanges := s.exchanges, dispatcher := s.dispatcher } = s)

/-! ### The park clock, R19 to R31 -/

/-- R24 to R30: TIME_REF by its outcome. `D` is the signed difference of the reference and park time. -/
def Obligations.ReferenceDisciplines : Prop :=
  ∀ (s : State) (ref : BitVec 48) (D : Int), Listening s .site → D = (ref.toNat : Int) - s.clock.parkTime →
    ∃ t : State, ∃ outcome : Byte, ∃ shown : Int,
      exec (.timeRef ref) s = .next (t.respond .site 0x31 .ok
        (outcome :: toBytesInt 4 shown ++ toBytes 6 t.clock.parkTime ++ toBytesInt 2 t.clock.trim)) ∧
      t.clock.sync = .synced ∧ t.clock.elapsed = s.clock.elapsed ∧
      t.clock.holdoverDeadline = some (s.clock.elapsed + s.control.park.holdoverTime * 1000) ∧
      (s.clock.sync ≠ .unsynced → t.clock.adjust = if t.clock.trim = s.clock.trim then s.clock.adjust else 0) ∧
      { t with clock := s.clock, sessions := s.sessions, notices := s.notices } = s ∧
      (s.clock.sync = .unsynced →
        outcome = 0 ∧ shown = 0 ∧ t.clock.parkTime = ref.toNat ∧ t.clock.trim = 0 ∧ t.clock.smoothed = 0 ∧
          t.clock.slewing = false ∧ t.sessions = s.sessions ∧ t.notices = s.notices) ∧
      (s.clock.sync ≠ .unsynced →
        shown = max (-2147483648) (min 2147483647 D) ∧
        (s.control.park.stepThreshold ≤ D →
          outcome = 1 ∧ t.clock.parkTime = ref.toNat ∧ t.clock.smoothed = 0 ∧ t.clock.slewing = false ∧
            t.clock.trim = (if s.clock.slewing then 0 else s.clock.trim) ∧
            t.notices = { s.notices with site.timeStepped := true } ∧
            t.sessions.nextNumber = s.sessions.nextNumber ∧ t.sessions.nextStamp = s.sessions.nextStamp ∧
            ∀ o, t.slot o = (s.slot o).map fun ses => if ses.state.live then { ses with timeStepped := true } else ses) ∧
        (D < s.control.park.stepThreshold → D ≤ -(s.control.park.stepThreshold : Int) →
          outcome = 2 ∧ t.clock.parkTime = s.clock.parkTime ∧ t.clock.trim = -500 ∧ t.clock.smoothed = 0 ∧
            t.clock.slewing = true ∧ t.notices = s.notices ∧
            t.sessions.nextNumber = s.sessions.nextNumber ∧ t.sessions.nextStamp = s.sessions.nextStamp ∧
            ∀ o, t.slot o = (s.slot o).map fun ses => if ses.state.live then { ses with timeSlewed := true } else ses) ∧
        (D < s.control.park.stepThreshold → -(s.control.park.stepThreshold : Int) < D →
          outcome = 3 ∧ t.clock.parkTime = s.clock.parkTime ∧ t.clock.slewing = false ∧ t.sessions = s.sessions ∧
            t.notices = s.notices ∧
            t.clock.smoothed = (if s.clock.slewing then 0 else s.clock.smoothed) +
              (D - (if s.clock.slewing then 0 else s.clock.smoothed)).tdiv (2 ^ s.control.park.filterDepth) ∧
            t.clock.trim = max (-500) (min 500 ((if s.clock.slewing then 0 else s.clock.trim) + t.clock.smoothed))))

/-- R19 to R21, R48, R64, R65, R28, R29: a millisecond of elapsed time; the adjusted one; the holdover deadline. That
TRIM_ADJUSTMENT is the whole adjusted millisecond is the model's reading (log 5), that the low count rises here is too (log 7). -/
def Obligations.ClockRuns : Prop :=
  (∀ s : State, s.held = false → s.clock.elapsed < max48 →
    ∃ t : State, exec .elapsedMillisecond s = .next t ∧
      (s.clock.adjustDue = true → exec .trimAdjustment s = .next t) ∧
      t.clock.elapsed = s.clock.elapsed + 1 ∧
      (s.clock.trim = 0 → t.clock.parkTime = min (s.clock.parkTime + 1) max48 ∧ t.clock.adjust = 0) ∧
      (s.clock.trim ≠ 0 → s.clock.adjust + 1 < 1000000 / s.clock.trim.natAbs →
        t.clock.parkTime = min (s.clock.parkTime + 1) max48 ∧ t.clock.adjust = s.clock.adjust + 1) ∧
      (s.clock.trim ≠ 0 → 1000000 / s.clock.trim.natAbs ≤ s.clock.adjust + 1 →
        t.clock.parkTime = min (s.clock.parkTime + if 0 < s.clock.trim then 2 else 0) max48 ∧ t.clock.adjust = 0) ∧
      { t.clock with elapsed := s.clock.elapsed, parkTime := s.clock.parkTime, adjust := s.clock.adjust } = s.clock ∧
      (∀ o, t.slot o = (s.slot o).map fun ses =>
        if ses.state = .parked then { ses with parkedElapsed := ses.parkedElapsed + 1 } else ses) ∧
      (∀ o n stamp, (s.meter o).filter = .lowMeasuring n stamp →
        t.meter o = { s.meter o with filter := .lowMeasuring (n + 1) stamp }) ∧
      (∀ o, (∀ n stamp, (s.meter o).filter ≠ .lowMeasuring n stamp) → t.meter o = s.meter o) ∧
      { t.sessions with slots := s.sessions.slots } = s.sessions ∧
      { t with clock := s.clock, sessions := s.sessions, meters := s.meters } = s) ∧
    ∀ (s : State) (d : Nat), s.held = false → s.clock.sync = .synced → s.clock.holdoverDeadline = some d →
      d ≤ s.clock.elapsed →
      ∃ t : State, exec .holdoverDeadline s = .next t ∧
        t.clock = { s.clock with sync := .holdover, holdoverDeadline := none } ∧
        t.notices = { s.notices with site.timeHoldover := true } ∧
        (∀ o, t.slot o = (s.slot o).map fun ses => if ses.state.live then { ses with holdoverSeen := true } else ses) ∧
        { t.sessions with slots := s.sessions.slots } = s.sessions ∧
        { t with clock := s.clock, sessions := s.sessions, notices := s.notices } = s

/-! ### The session table, R38 to R63 -/

/-- R41, order 10, R42, R38, R39, R29: an ARM that passes every check creates the session, advances the session counter to the next
number (by 1, and from 2^32 − 1 to 1) held by no slot and no queued record, and sets the overdraw count to 0. `minutesAccrued` is the
model's own field (log 8). -/
def Obligations.ArmCreatesSession : Prop :=
  ∀ (s : State) (o : Outlet) (n : Fin 8) (b plan cls : Byte) (hold : BitVec 32) (ref : Vector Byte 12),
    Listening s .settlement → b.toNat = o.val → plan.toNat = n.val → s.control.mode = .operating →
    s.present o = true → s.clock.sync ≠ .unsynced → s.slot o = none → (s.link o).link = .online →
    ((s.exchange o).heldReport.map (·.state)) ≠ some .fault → (s.plan n).valid = true → cls.toNat ≤ 2 →
    s.control.park.minimumHold ≤ hold.toNat → hold.toNat ≤ 999999 →
    ∃ next : Nat,
      exec (.arm b hold plan cls ref) s =
        .next (({ ((s.setSlot o (some
            { number := s.sessions.nextNumber
              state := .armed (s.clock.elapsed + s.control.park.armTimeout * 1000)
              paymentRef := ref, cls := cls.toNat, hold := hold.toNat
              tariff := { plan := n.val, sessionFee := (s.plan n).sessionFee, idleFee := (s.plan n).idleFee,
                          grace := (s.plan n).grace, bands := (s.plan n).bands }
              charge := none, feeCharged := 0, energyCharge := 0, energyRemainder := 0, idleCharge := 0
              pulseEnergy := 0, bandSubtotals := (s.plan n).bands.map fun _ => 0
              parkedElapsed := 0, minutesAccrued := 0, idleMinutes := 0, armTime := s.clock.parkTime
              fundsLowSent := false, timeStepped := false, timeSlewed := s.clock.slewing
              holdoverSeen := decide (s.clock.sync = .holdover) })).setMeter o { s.meter o with overdraw := 0 }) with
            sessions.nextNumber := next } : State).respond .settlement 0x10 .ok (toBytes 4 s.sessions.nextNumber)) ∧
      (s.closures.length ≤ Config.closureRoom →
        next ≠ s.sessions.nextNumber ∧ (∀ p v, s.slot p = some v → v.number ≠ next) ∧
          (∀ r ∈ s.closures, r.number ≠ next) ∧
          ∃ k : Nat, next = (fun n => if n = 4294967295 then 1 else n + 1)^[k + 1] s.sessions.nextNumber ∧
            ∀ j x, j < k → x = (fun n => if n = 4294967295 then 1 else n + 1)^[j + 1] s.sessions.nextNumber →
              x = s.sessions.nextNumber ∨ (∃ p v, s.slot p = some v ∧ v.number = x) ∨ ∃ r ∈ s.closures, r.number = x)

/-- R41: the refusals of ARM in their order; a refused ARM changes nothing. -/
def Obligations.ArmRefusedInOrder : Prop :=
  ∀ (s : State) (b plan cls : Byte) (hold : BitVec 32) (ref : Vector Byte 12) (status : Status),
    Listening s .settlement →
    firstOf
      [(s.control.mode != .operating, Status.wrongMode),
       (decide (15 < b.toNat) || !s.present (Fin.ofNat 16 b.toNat), .outletDown),
       (s.clock.sync == .unsynced, .noTime),
       ((s.slot (Fin.ofNat 16 b.toNat)).isSome, .outletBusy),
       ((s.link (Fin.ofNat 16 b.toNat)).link != .online ||
         (s.exchange (Fin.ofNat 16 b.toNat)).heldReport.map (·.state) == some .fault, .outletDown),
       (decide (7 < plan.toNat) || !(s.plan (Fin.ofNat 8 plan.toNat)).valid, .badPlan),
       (decide (2 < cls.toNat), .badValue),
       (decide (hold.toNat < s.control.park.minimumHold), .lowHold),
       (decide (999999 < hold.toNat), .overLimit)] = some status →
    exec (.arm b hold plan cls ref) s = .next (s.respond .settlement 0x10 status [])

/-- R53, R91: TOPUP refused in its order, or raising the hold, after which the funds guard is evaluated with the new hold (what one
evaluation does: `FundsGuardEvaluated`), and FUNDS_LOW_SENT clears where the energy headroom is above the warning. -/
def Obligations.HoldToppedUp : Prop :=
  ∀ (s : State) (number amount : BitVec 32), Listening s .settlement →
    (NoSlotHolds s number.toNat →
      exec (.topup number amount) s = .next (s.respond .settlement 0x11 .unknownSession [])) ∧
    ∀ o ses, HoldsNumber s o ses number.toNat →
      (ses.state.open = false → exec (.topup number amount) s = .next (s.respond .settlement 0x11 .tooLate [])) ∧
      (ses.state.open = true → 999999 < ses.hold + amount.toNat →
        exec (.topup number amount) s = .next (s.respond .settlement 0x11 .overLimit [])) ∧
      (ses.state.open = true → ses.hold + amount.toNat ≤ 999999 →
        ∀ (raised : Session) (u : State) (price money energy : Nat),
          raised = { ses with hold := ses.hold + amount.toNat } → u = s.setSlot o (some raised) →
          price = max (bandInForce ses.tariff.bands s.clock.parkTime).2
            (bandInForce ses.tariff.bands (s.clock.parkTime + 60000)).2 →
          (money : Int) = max 0 (((ses.hold + amount.toNat) * 1000 : Int) -
            (ses.feeCharged + ses.energyCharge + ses.idleCharge)) →
          energy = (if price = 0 then 4294967295 else min (money * 1000 / price) 4294967295) →
          (energy ≤ s.control.park.fundsWarning →
            exec (.topup number amount) s =
              .next ((u.evaluateFunds o).respond .settlement 0x11 .ok (toBytes 4 (ses.hold + amount.toNat)))) ∧
          (s.control.park.fundsWarning < energy →
            exec (.topup number amount) s =
              .next (((u.evaluateFunds o).setSlot o
                (((u.evaluateFunds o).slot o).map fun v => { v with fundsLowSent := false })).respond .settlement 0x11 .ok
                  (toBytes 4 (ses.hold + amount.toNat)))) ∧
          (((ses.state = .charging ∧ energy ≤ s.control.park.guardEnergy) ∨ (ses.state = .parked ∧ money = 0)) →
            ∃ v d, (u.evaluateFunds o).slot o = some v ∧ v.state = .stopping .funds s.clock.parkTime d)) ∧
      (ses.state.open = true → ses.hold + amount.toNat ≤ 999999 →
        ∃ t : State, ∃ after : Session,
          exec (.topup number amount) s =
            .next (t.respond .settlement 0x11 .ok (toBytes 4 (ses.hold + amount.toNat))) ∧
          t.slot o = some after ∧ after.hold = ses.hold + amount.toNat ∧ after.pulseEnergy = ses.pulseEnergy ∧
          after.energyCharge = ses.energyCharge ∧ after.feeCharged = ses.feeCharged ∧
          after.idleCharge = ses.idleCharge ∧ after.number = ses.number ∧
          (∀ p, p ≠ o → t.slot p = s.slot p) ∧
          (({ ses with hold := ses.hold + amount.toNat } : Session).fundsStop s.clock.parkTime
            s.control.park.guardEnergy = false → after.state = ses.state ∧ t.pool = s.pool) ∧
          (s.control.park.fundsWarning <
              ({ ses with hold := ses.hold + amount.toNat } : Session).energyHeadroom s.clock.parkTime →
            after.fundsLowSent = false) ∧
          { t with sessions := s.sessions, pool := s.pool, notices := s.notices } = s)

/-- R57, R142, R59: an entry into STOPPING from ARMED, CHARGING, PARKED or SUSPENDED. That a PARKED session with an accrual not yet
taken has its parked elapsed time stop short of the multiple (`leaveParked`) is the model's (R84, log 8). -/
def Obligations.StoppingEntered : Prop :=
  ∀ (s : State) (o : Outlet) (ses : Session) (reason : EndReason), s.slot o = some ses → ses.state.open = true →
    Released s (s.enterStopping o reason) o ∧
      (s.enterStopping o reason).slot o = some { ses.leaveParked with
        state := .stopping reason s.clock.parkTime
          (if s.outletHolds o then none else some (s.clock.elapsed + s.control.park.settleWindow)) } ∧
      (∀ p, p ≠ o → (s.enterStopping o reason).slot p = s.slot p) ∧
      (s.enterStopping o reason).notices = s.notices.raiseOutlet .sessionStopping o ∧
      (s.enterStopping o reason).command o = (if s.present o then .stop else .idle) ∧
      (s.enterStopping o reason).setpoint o = 0 ∧
      { (s.enterStopping o reason).sessions with slots := s.sessions.slots } = s.sessions ∧
      { s.enterStopping o reason with sessions := s.sessions, pool := s.pool, notices := s.notices } = s

/-- R49, R52, R55, R58: STOP, the arm deadline and the suspend deadline enter STOPPING with their end reasons; a STOP of a session
already ending is answered ALREADY, of an unknown number UNKNOWN_SESSION. -/
def Obligations.SessionsStopped : Prop :=
  (∀ (s : State) (number : BitVec 32), Listening s .settlement →
    (NoSlotHolds s number.toNat →
      exec (.stop number) s = .next (s.respond .settlement 0x12 .unknownSession [])) ∧
    ∀ o ses, HoldsNumber s o ses number.toNat →
      (ses.state.open = true →
        exec (.stop number) s = .next ((s.enterStopping o .operator).respond .settlement 0x12 .ok [])) ∧
      (ses.state.open = false → exec (.stop number) s = .next (s.respond .settlement 0x12 .already []))) ∧
    (∀ (s : State) (o : Outlet) (ses : Session) (d : Nat), s.held = false → s.slot o = some ses →
      ses.state = .armed d → d ≤ s.clock.elapsed →
      exec (.armDeadline o) s = .next (s.enterStopping o .noStart)) ∧
    ∀ (s : State) (o : Outlet) (ses : Session) (f : Resumable) (d : Nat), s.held = false → s.slot o = some ses →
      ses.state = .suspended f d → d ≤ s.clock.elapsed →
      exec (.suspendDeadline o) s = .next (s.enterStopping o .linkLost)

/-- R61, R62, R63, R78, R93, R154, R156: when the settle deadline passes the session closes: the record it leaves, and where. -/
def Obligations.SessionClosed : Prop :=
  ∀ (s : State) (o : Outlet) (ses : Session) (reason : EndReason) (stopTime d : Nat), s.held = false →
    s.slot o = some ses → ses.state = .stopping reason stopTime (some d) → d ≤ s.clock.elapsed →
    ∃ r : ClosureRecord,
      (s.closures.length < 32 →
        exec (.settleDeadline o) s = .next (({ s with
            closures := s.closures ++ [r]
            notices := { s.notices with settlement.closureReady := true } } : State).setSlot o none)) ∧
      (32 ≤ s.closures.length →
        exec (.settleDeadline o) s =
          .next (s.setSlot o (some { ses with state := .closedWait r s.clock.elapsed }))) ∧
      r.number = ses.number ∧ r.outlet = o ∧ r.paymentRef = ses.paymentRef ∧ r.cls = ses.cls ∧ r.hold = ses.hold ∧
      r.accrued = ses.feeCharged + ses.energyCharge + ses.idleCharge ∧
      r.billed = min ses.hold ((r.accrued + 500) / 1000) ∧
      (r.overrun : Int) = max 0 ((r.accrued : Int) - ses.hold * 1000) ∧
      (r.capped = true ↔ ses.hold < (r.accrued + 500) / 1000) ∧
      r.feeCharged = ses.feeCharged ∧ r.energyCharge = ses.energyCharge ∧
      r.energyRemainder = ses.energyRemainder ∧ r.idleCharge = ses.idleCharge ∧ r.idleMinutes = ses.idleMinutes ∧
      r.pulseEnergy = ses.pulseEnergy ∧ r.plan = ses.tariff.plan ∧ r.sessionFee = ses.tariff.sessionFee ∧
      r.idleFee = ses.tariff.idleFee ∧ r.grace = ses.tariff.grace ∧
      r.bands.map (fun b => (⟨b.start, b.price⟩ : Band)) = ses.tariff.bands ∧
      (ses.bandSubtotals.length = ses.tariff.bands.length → r.bands.map (·.subtotal) = ses.bandSubtotals) ∧
      r.armTime = ses.armTime ∧ r.chargeStart = ses.charge.map (·.startTime) ∧ r.stopTime = stopTime ∧
      r.closureTime = s.clock.parkTime ∧ r.endReason = reason ∧ r.timeStepped = ses.timeStepped ∧
      r.timeSlewed = ses.timeSlewed ∧ r.holdoverSeen = ses.holdoverSeen ∧
      (ses.charge = none → r.meterDelta = none ∧ r.meterDisagree = false) ∧
      ∀ c, ses.charge = some c → c.meterStart ≤ max32 →
        ∃ delta : Nat, r.meterDelta = some delta ∧ delta < 4294967296 ∧
          (c.meterStart + delta) % 4294967296 = c.lastMeter % 4294967296 ∧
          (r.meterDisagree = true ↔
            (max 20 (ses.pulseEnergy / 100) : Int) < |(delta : Int) - (ses.pulseEnergy : Int)|)

/-- R83, R84: an idle-minute accrual of a PARKED session, charged from the minute after the grace period on, and then followed by the
funds guard. `minutesAccrued` is the model's own count of the accruals served (log 8). -/
def Obligations.IdleMinuteAccrued : Prop :=
  ∀ (s : State) (o : Outlet) (ses : Session), s.held = false → s.slot o = some ses → ses.state = .parked →
    ses.minutesAccrued < ses.parkedElapsed / 60000 →
    (ses.minutesAccrued + 1 ≤ ses.tariff.grace →
      exec (.idleMinuteAccrual o) s =
        .next (s.setSlot o (some { ses with minutesAccrued := ses.minutesAccrued + 1 }))) ∧
    (ses.tariff.grace < ses.minutesAccrued + 1 → ses.idleMinutes < max32 →
      exec (.idleMinuteAccrual o) s =
        .next ((s.setSlot o (some { ses with
          minutesAccrued := ses.minutesAccrued + 1
          idleMinutes := ses.idleMinutes + 1
          idleCharge := ses.idleCharge + ses.tariff.idleFee })).evaluateFunds o))

/-! ### The metering unit and the charge unit -/

/-- R66, R69 to R72, R81, R37: a confirmed low level takes a pulse of the outlet's weight: billed exactly into the session that can take
it, with the band of the stamp, and then evaluated; otherwise stray. The band in force is the last whose start is not after the
minute of day. -/
def Obligations.PulseAttributed : Prop :=
  (∀ (bands : List Band) (parkTime : Nat), bandsWellFormed bands = true →
    ∃ (i : Nat) (b : Band), bands[i]? = some b ∧ bandInForce bands parkTime = (i, b.price) ∧
      b.start ≤ parkTime / 60000 % 1440 ∧
      ∀ (j : Nat) (later : Band), i < j → bands[j]? = some later → parkTime / 60000 % 1440 < later.start) ∧
  ∀ (s : State) (o : Outlet) (n stamp : Nat), s.held = false → (s.meter o).filter = .lowMeasuring n stamp →
    (s.outletItems o).pulseMinWidth ≤ n →
    ((s.slot o = none ∨ ∃ ses, s.slot o = some ses ∧
        (ses.state.bills = false ∨ max32 < ses.pulseEnergy + (s.outletItems o).pulseWeight)) →
      exec (.pulseTaken o) s =
        .next ((s.setMeter o { s.meter o with
            filter := .lowTaken
            pulses := min ((s.meter o).pulses + 1) max32
            stray := min ((s.meter o).stray + (s.outletItems o).pulseWeight) max32 }).raiseOutlet .strayEnergy o)) ∧
    ∀ ses, s.slot o = some ses → ses.state.bills = true →
      ses.pulseEnergy + (s.outletItems o).pulseWeight ≤ max32 →
      ∃ billed : Session,
        exec (.pulseTaken o) s =
          .next (((s.setMeter o { s.meter o with
              filter := .lowTaken
              pulses := min ((s.meter o).pulses + 1) max32 }).setSlot o (some billed)).evaluateFunds o) ∧
        billed.pulseEnergy = ses.pulseEnergy + (s.outletItems o).pulseWeight ∧
        billed.energyRemainder < 1000 ∧
        billed.energyCharge * 1000 + billed.energyRemainder =
          ses.energyCharge * 1000 + ses.energyRemainder +
            (s.outletItems o).pulseWeight * (bandInForce ses.tariff.bands stamp).2 ∧
        billed.bandSubtotals =
          ses.bandSubtotals.modify (bandInForce ses.tariff.bands stamp).1 (· + (s.outletItems o).pulseWeight) ∧
        { billed with
            pulseEnergy := ses.pulseEnergy, energyRemainder := ses.energyRemainder,
            energyCharge := ses.energyCharge, bandSubtotals := ses.bandSubtotals } = ses

/-- R64, R65, R68: a low sample in HIGH begins a low level with the park time as its stamp; a high sample in START or LOW_TAKEN leads to
HIGH. -/
def Obligations.FilterFollowsSamples : Prop :=
  ∀ (s : State) (o : Outlet), s.held = false →
    ((s.meter o).filter = .high →
      exec (.pulseLeadingEdge o) s =
        .next (s.setMeter o { s.meter o with filter := .lowMeasuring 1 s.clock.parkTime })) ∧
    ((s.meter o).filter = .start ∨ (s.meter o).filter = .lowTaken →
      exec (.pulseInputHigh o) s = .next (s.setMeter o { s.meter o with filter := .high }))

/-- R67: a high sample in LOW_MEASURING ends the low level as a runt. -/
def Obligations.RuntCounted : Prop :=
  ∀ (s : State) (o : Outlet) (n stamp : Nat), s.held = false → (s.meter o).filter = .lowMeasuring n stamp →
    exec (.runt o) s =
      .next { s with meters := s.meters.set o { s.meter o with filter := .high, runts := min ((s.meter o).runts + 1) max32 } }

/-- R85 to R90: one evaluation of the funds guard: the guard price, the headrooms, the stop and the warning. -/
def Obligations.FundsGuardEvaluated : Prop :=
  ∀ (s : State) (o : Outlet),
    (s.slot o = none → s.evaluateFunds o = s) ∧
    ∀ (ses : Session) (price money energy : Nat), s.slot o = some ses →
      price = max (bandInForce ses.tariff.bands s.clock.parkTime).2
        (bandInForce ses.tariff.bands (s.clock.parkTime + 60000)).2 →
      (money : Int) = max 0 ((ses.hold * 1000 : Int) - (ses.feeCharged + ses.energyCharge + ses.idleCharge)) →
      energy = (if price = 0 then 4294967295 else min (money * 1000 / price) 4294967295) →
      ((∃ r n, ses.state = .closedWait r n) → s.evaluateFunds o = s) ∧
      ((∀ r n, ses.state ≠ .closedWait r n) → ∀ stopped : State,
        stopped = (if (ses.state = .charging ∧ energy ≤ s.control.park.guardEnergy) ∨
            (ses.state = .parked ∧ money = 0) then s.enterStopping o .funds else s) →
        s.evaluateFunds o =
          if energy ≤ s.control.park.fundsWarning ∧ ses.fundsLowSent = false then
            (stopped.setSlot o ((stopped.slot o).map fun v => { v with fundsLowSent := true })).raiseOutlet .fundsLow o
          else stopped)

/-! ### The module pool, R135 to R153 -/

/-- R138, R144, R153: a CONFIRM by the module's state and the route it carries. -/
def Obligations.ConfirmServed : Prop :=
  ∀ (s b : State) (m : ModuleNo), s.held = false →
    b = s.setCabinet { s.pool.cabinet with rx := .hunting } →
    (∀ o d, (s.module m).state = .switching o d false → s.control.park.warmUpTime ≠ 0 →
      exec (.confirm m (some o)) s =
        .next (b.setModuleState m (.warming o (s.clock.elapsed + s.control.park.warmUpTime)))) ∧
    (∀ o d, (s.module m).state = .switching o d false → s.control.park.warmUpTime = 0 →
      exec (.confirm m (some o)) s = .next (b.setModuleState m (.active o))) ∧
    (∀ o d, (s.module m).state = .switching o d true →
      exec (.confirm m (some o)) s =
        .next ((b.issue (.unroute m)).setModuleState m (.opening o (s.clock.elapsed + s.control.park.switchTimeout)))) ∧
    (∀ o d ooc route, (s.module m).state = .switching o d ooc → route ≠ some o →
      exec (.confirm m route) s = .next (b.faultModule m .routeMismatch)) ∧
    (∀ o d, (s.module m).state = .opening o d →
      ∃ t : State, exec (.confirm m none) s = .next t ∧
        t.module m = { s.module m with
          state := if (s.module m).leaving then .outOfService else .free, leaving := false } ∧
        (∀ k, k ≠ m → t.module k = s.module k) ∧ SettleReported s t o ∧
        (∀ p, p ≠ o → t.slot p = s.slot p) ∧ { t.sessions with slots := s.sessions.slots } = s.sessions ∧
        t.pool.cabinet = b.pool.cabinet ∧
        t.pool.shortfalls = s.pool.shortfalls ∧
        { t with sessions := s.sessions, pool := s.pool } = s) ∧
    ∀ route, ((s.module m).state.assigned = none ∨ (∃ o d, (s.module m).state = .warming o d) ∨
        (∃ o, (s.module m).state = .active o) ∨ (∃ o d, (s.module m).state = .draining o d) ∨
        (∃ o d, (s.module m).state = .opening o d ∧ route ≠ none)) →
      exec (.confirm m route) s =
        .next (b.setCabinet { b.pool.cabinet with
          unexpectedConfirms := min (s.pool.cabinet.unexpectedConfirms + 1) max32 })

/-- R139, R144, R145, R146, R147: a module entering FAULTED; FAULT_ON and FAULT_OFF. -/
def Obligations.ModuleFaulted : Prop :=
  (∀ (s : State) (m : ModuleNo) (reason : FaultReason),
    (s.faultModule m reason).module m = { s.module m with state := .faulted reason } ∧
      (∀ k, k ≠ m → (s.faultModule m reason).module k = s.module k) ∧
      (s.faultModule m reason).notices =
        { s.notices with site.moduleFault := s.notices.site.moduleFault ||| moduleBit m } ∧
      (s.faultModule m reason).pool.shortfalls = s.pool.shortfalls ∧
      ((s.module m).state.assigned = none →
        (s.faultModule m reason).sessions = s.sessions ∧ (s.faultModule m reason).pool.cabinet = s.pool.cabinet) ∧
      (∀ o, (s.module m).state.assigned = some o →
        UnrouteGoes (s.faultModule m reason) m ∧
          (s.faultModule m reason).pool.cabinet = (s.issue (.unroute m)).pool.cabinet ∧
          SettleReported s (s.faultModule m reason) o ∧
          { (s.faultModule m reason).sessions with slots := s.sessions.slots } = s.sessions ∧
          ∀ p, p ≠ o → (s.faultModule m reason).slot p = s.slot p) ∧
      { s.faultModule m reason with sessions := s.sessions, pool := s.pool, notices := s.notices } = s) ∧
    ∀ (s b : State) (m : ModuleNo), s.held = false →
      b = s.setCabinet { s.pool.cabinet with rx := .hunting } →
      ((s.module m).state = .outOfService →
        exec (.faultOn m) s = .next (b.setModule m { s.module m with indication := .faultOn })) ∧
      ((s.module m).state ≠ .outOfService →
        exec (.faultOn m) s =
          .next ((b.setModule m { s.module m with indication := .faultOn }).faultModule m .cabinetFault)) ∧
      exec (.faultOff m) s = .next (b.setModule m { s.module m with indication := .faultOff })

/-- R139, R140, R143, R144: the four module deadlines. -/
def Obligations.ModuleDeadlinesPass : Prop :=
  ∀ (s : State) (m : ModuleNo) (o : Outlet) (d : Nat), s.held = false → d ≤ s.clock.elapsed →
    (∀ ooc, (s.module m).state = .switching o d ooc →
      exec (.switchTimeout m) s = .next (s.faultModule m .confirmTimeout)) ∧
    ((s.module m).state = .warming o d → exec (.warmUpDeadline m) s = .next (s.setModuleState m (.active o))) ∧
    ((s.module m).state = .draining o d →
      exec (.drainDeadline m) s =
        .next ((s.issue (.unroute m)).setModuleState m
          (.opening o (s.clock.elapsed + s.control.park.switchTimeout)))) ∧
    ((s.module m).state = .opening o d → exec (.openingTimeout m) s = .next (s.faultModule m .confirmTimeout))

/-- R148, R149, R150: MODULE_SERVICE out and in, and MODULE_CLEAR, by the module's state. -/
def Obligations.ModuleServiced : Prop :=
  ∀ (s : State) (b : Byte), Listening s .site →
    (32 ≤ b.toNat →
      (∀ d, exec (.moduleServiceOut b d) s = .next (s.respond .site 0x36 .badValue [])) ∧
      exec (.moduleServiceIn b) s = .next (s.respond .site 0x36 .badValue []) ∧
      exec (.moduleClear b) s = .next (s.respond .site 0x37 .badValue [])) ∧
    (∀ d : Byte, 1 < d.toNat → exec (.moduleServiceOut b d) s = .next (s.respond .site 0x36 .badValue [])) ∧
    ∀ m : ModuleNo, b.toNat = m.val →
      ((s.module m).state = .outOfService →
        exec (.moduleServiceOut b 0) s = .next (s.respond .site 0x36 .already [0]) ∧
        ((s.module m).indication = .faultOn → exec (.moduleServiceIn b) s =
          .next ((s.setModuleState m (.faulted .cabinetFault)).respond .site 0x36 .ok [7])) ∧
        ((s.module m).indication ≠ .faultOn → exec (.moduleServiceIn b) s =
          .next ((s.setModuleState m .free).respond .site 0x36 .ok [1]))) ∧
      ((s.module m).state = .free → exec (.moduleServiceOut b 0) s =
        .next ((s.setModuleState m .outOfService).respond .site 0x36 .ok [0])) ∧
      (∀ r, (s.module m).state = .faulted r →
        exec (.moduleServiceOut b 0) s =
          .next ((s.setModule m { s.module m with state := .outOfService, leaving := false }).respond .site 0x36 .ok [0]) ∧
        ((s.module m).indication = .faultOn →
          exec (.moduleClear b) s = .next (s.respond .site 0x37 .faultPresent [7, 1])) ∧
        ((s.module m).indication ≠ .faultOn → (s.module m).leaving = true → exec (.moduleClear b) s =
          .next ((s.setModule m { s.module m with state := .outOfService, leaving := false }).respond .site 0x37 .ok [0])) ∧
        ((s.module m).indication ≠ .faultOn → (s.module m).leaving = false → exec (.moduleClear b) s =
          .next ((s.setModuleState m .free).respond .site 0x37 .ok [1]))) ∧
      ((∀ r, (s.module m).state ≠ .faulted r) → exec (.moduleClear b) s =
        .next (s.respond .site 0x37 .faultPresent [(s.module m).state.code, (s.module m).indication.code])) ∧
      ((s.module m).state ≠ .outOfService → (s.module m).leaving = true → exec (.moduleServiceIn b) s =
        .next ((s.setModule m { s.module m with leaving := false }).respond .site 0x36 .ok [(s.module m).state.code])) ∧
      ((s.module m).state ≠ .outOfService → (s.module m).leaving = false → exec (.moduleServiceIn b) s =
        .next (s.respond .site 0x36 .already [(s.module m).state.code])) ∧
      ((s.module m).state.assigned.isSome = true →
        ((s.module m).leaving = true → exec (.moduleServiceOut b 0) s =
          .next (s.respond .site 0x36 .already [(s.module m).state.code])) ∧
        ((s.module m).leaving = false → ∃ t : State,
          exec (.moduleServiceOut b 0) s = .next (t.respond .site 0x36 .ok [(afterRelease s (s.module m).state).code]) ∧
          t.module m = { s.module m with state := afterRelease s (s.module m).state, leaving := true } ∧
          (∀ k, k ≠ m → t.module k = s.module k) ∧ t.pool.shortfalls = s.pool.shortfalls ∧
          ((∃ o d, (s.module m).state = .warming o d) →
            UnrouteGoes t m ∧ t.pool.cabinet = (s.issue (.unroute m)).pool.cabinet) ∧
          ((∀ o d, (s.module m).state ≠ .warming o d) → t.pool.cabinet = s.pool.cabinet) ∧
          { t with pool := s.pool } = s))

/-- R151 to R153, R177: the cabinet link: a message issued, a message sent, and what comes in and is discarded. -/
def Obligations.CabinetLinkServed : Prop :=
  (∀ (s : State) (msg : CabinetMsg), s.pool.cabinet.sending ≠ none →
    ((∀ w ∈ s.pool.cabinet.waiting, w.module ≠ msg.module) →
      (s.issue msg).pool.cabinet = { s.pool.cabinet with waiting := s.pool.cabinet.waiting ++ [msg] }) ∧
    ∀ before after old, s.pool.cabinet.waiting = before ++ old :: after → old.module = msg.module →
      (∀ w ∈ before ++ after, w.module ≠ msg.module) →
      (s.issue msg).pool.cabinet = { s.pool.cabinet with waiting := before ++ msg :: after }) ∧
    (∀ (s : State) (msg : CabinetMsg), s.pool.cabinet.sending = none → s.pool.cabinet.waiting = [] →
      (s.issue msg).pool.cabinet = { s.pool.cabinet with sending := some msg }) ∧
    (∀ (s : State) (msg : CabinetMsg), s.held = false → s.pool.cabinet.sending = some msg →
      (s.pool.cabinet.waiting = [] →
        exec .cabinetMessageSent s = .next (s.setCabinet { s.pool.cabinet with sending := none })) ∧
      ∀ head rest, s.pool.cabinet.waiting = head :: rest →
        exec .cabinetMessageSent s =
          .next (s.setCabinet { s.pool.cabinet with sending := some head, waiting := rest })) ∧
    ∀ (s : State) (f : RawFrame), s.held = false → f.complete = true →
      ((f.length ≠ 2#8 ∧ f.length ≠ 3#8) ∨ f.checkOk = false →
        exec (.cabinetFrameError f) s = .next (s.setCabinet { s.pool.cabinet with
          rx := .hunting, frameErrors := min (s.pool.cabinet.frameErrors + 1) max32 })) ∧
      (f.length = 2#8 ∨ f.length = 3#8 → f.checkOk = true →
        cabinetMessageOf (byteAt f.rest 0).toNat (f.content.drop 1) = none →
        exec (.unusableMessage f) s = .next (s.setCabinet { s.pool.cabinet with
          rx := .hunting, unusable := min (s.pool.cabinet.unusable + 1) max32 }))

/-- R128 to R131, R137, R141: a module request takes the lowest-numbered FREE module in reach or counts a shortfall; each dispatch, on the
state that has its grants, requests for the claims in service order what each lacks, and then counts the excess in the same order;
the excess counter, and the single release of the highest-numbered ACTIVE module. -/
def Obligations.ModulesRequestedAndReleased : Prop :=
  (∀ (s : State) (o : Outlet),
    (∀ m, (s.module m).state = .free → OutletSet.has (s.module m).reach o = true →
      (∀ k, k < m → (s.module k).state = .free → OutletSet.has (s.module k).reach o = false) →
      s.requestModule o =
        (s.setModuleState m (.switching o (s.clock.elapsed + s.control.park.switchTimeout) false)).issue (.route m o)) ∧
    ((∀ m, (s.module m).state = .free → OutletSet.has (s.module m).reach o = false) →
      s.requestModule o = { s with pool := { s.pool with
        shortfalls := s.pool.shortfalls.set o (min (s.pool.shortfalls[o] + 1) max32) } })) ∧
    (∀ s g : State, g = s.fundsStage.capStage.ceilingStage.grantStage →
      s.dispatch = g.serviceOrder.foldl State.excessFor (g.serviceOrder.foldl State.requestFor g) ∧
        g.pool = s.fundsStage.pool ∧ g.sessions = s.fundsStage.sessions ∧
        ∀ o, (s.dispatch.record o).grant = (g.record o).grant) ∧
    (∀ (s : State) (c : Claim) (target : Nat), 0 < s.rating →
      target * s.rating < (s.record c.outlet).grant + s.rating → (s.record c.outlet).grant ≤ target * s.rating →
      s.requestFor c = (fun t => State.requestModule t c.outlet)^[min
        (target - allModules.countP fun m => (s.module m).state.heldBy == some c.outlet)
        ((s.outletItems c.outlet).moduleLimit -
          allModules.countP fun m => (s.module m).state.heldBy == some c.outlet)] s) ∧
    (∀ (o : Outlet) (d : Nat) (ooc : Bool), (ModuleState.switching o d ooc).heldBy = some o ∧
      (ModuleState.warming o d).heldBy = some o ∧ (ModuleState.active o).heldBy = some o ∧
      (ModuleState.draining o d).heldBy = none ∧ (ModuleState.opening o d).heldBy = none) ∧
    ∀ (s : State) (c : Claim) (target count : Nat), 0 < s.rating →
      target * s.rating < (s.record c.outlet).grant + s.rating → (s.record c.outlet).grant ≤ target * s.rating →
      count = (if target < s.holding c.outlet then min 255 ((s.record c.outlet).excess + 1) else 0) →
      (count < s.control.park.releaseHold ∨ (∀ m, (s.module m).state ≠ .active c.outlet) →
        s.excessFor c = s.setRecord c.outlet { s.record c.outlet with excess := count }) ∧
      ∀ m, s.control.park.releaseHold ≤ count → (s.module m).state = .active c.outlet →
        (∀ k, m < k → (s.module k).state ≠ .active c.outlet) →
        s.excessFor c =
          (s.setRecord c.outlet { s.record c.outlet with excess := 0 }).setModuleState m
            (.draining c.outlet (s.clock.elapsed + s.control.park.drainTime))

/-! ### The dispatcher, R116 to R127 -/

/-- R116, R117: SET_CAP stores the clamped target with its expiry; the target lapses when the expiry passes. -/
def Obligations.CapTargetSetAndLapses : Prop :=
  (∀ (s : State) (cap validity : BitVec 16), Listening s .site →
    exec (.setCap cap validity) s =
      .next (({ s with dispatcher := { s.dispatcher with
          capTarget := some ⟨min cap.toNat 40000, s.clock.elapsed + max 1 (min validity.toNat 3600) * 1000⟩ } } : State).respond
        .site 0x30 .ok (toBytes 2 (min cap.toNat 40000) ++ toBytes 2 (max 1 (min validity.toNat 3600))))) ∧
    ∀ (s : State) (t : CapTarget), s.held = false → s.dispatcher.capTarget = some t → t.expiry ≤ s.clock.elapsed →
      exec .targetExpiry s = .next { s with
        dispatcher := { s.dispatcher with capTarget := none }
        notices := { s.notices with site.capExpired := true } }

/-- R118, R120 to R123, R92: each dispatch forms the effective cap from the target in force and the one before, A from it, the healthy
modules and the auxiliary reserve, and the demand, the ceiling of six terms and the minimum of every present outlet. The sessions
and modules are those that the funds evaluation of stage 2 leaves. -/
def Obligations.AvailablePowerFormed : Prop :=
  (∀ m : Module, m.healthy = true ↔
    m.leaving = false ∧ m.state ≠ .outOfService ∧ ∀ r, m.state ≠ .faulted r) ∧
  (∀ (s : State) (o : Outlet) (demand : Nat), demand = ((s.exchange o).heldReport.map (·.requested)).getD 0 →
    (s.fundsStage.isCharging o = false →
      (s.present o = true → s.dispatch.record o =
        { demand := demand, ceiling := 0, minimum := 0, grant := 0, admission := .none, excess := 0 }) ∧
      (s.present o = false → s.dispatch.record o = s.record o)) ∧
    ∀ (ses : Session) (rating price money energy funds healthy : Nat), s.fundsStage.slot o = some ses →
      ses.state = .charging → rating = s.control.park.moduleRating.getD 0 →
      price = max (bandInForce ses.tariff.bands s.clock.parkTime).2
        (bandInForce ses.tariff.bands (s.clock.parkTime + 60000)).2 →
      (money : Int) = max 0 ((ses.hold * 1000 : Int) - (ses.feeCharged + ses.energyCharge + ses.idleCharge)) →
      energy = (if price = 0 then 4294967295 else min (money * 1000 / price) 4294967295) →
      funds = (if energy ≤ s.control.park.guardEnergy then 0
        else min ((energy - s.control.park.guardEnergy) * 36000 / s.control.park.cyclePeriod) 40000) →
      healthy = allModules.countP (fun m =>
        (s.fundsStage.module m).healthy && OutletSet.has (s.fundsStage.module m).reach o) →
      (s.dispatch.record o).demand = demand ∧
        (s.dispatch.record o).ceiling = min demand (min ((s.outletItems o).maximum.getD 0)
          (min ((s.outletItems o).moduleLimit * rating) (min (rating * healthy)
            (min funds ((s.link o).published + (s.outletItems o).ramp.getD 0))))) ∧
        (s.dispatch.record o).minimum = min ((s.outletItems o).minimum.getD 0) (s.dispatch.record o).ceiling) ∧
  ∀ (s : State) (target healthy : Nat),
    target = (match s.dispatcher.capTarget with | some t => t.cap | none => s.control.park.fallbackCap.getD 0) →
    healthy = allModules.countP (fun m => (s.fundsStage.module m).healthy) →
    (target ≤ s.dispatcher.effectiveCap → s.dispatch.dispatcher.effectiveCap = target) ∧
    (s.dispatcher.effectiveCap < target → s.dispatch.dispatcher.effectiveCap =
      min target (s.dispatcher.effectiveCap + s.control.park.siteRamp.getD 0)) ∧
    (s.dispatch.dispatcher.available : Int) =
      max 0 ((min s.dispatch.dispatcher.effectiveCap (s.control.park.moduleRating.getD 0 * healthy) : Int) -
        s.control.park.auxReserve) ∧
    s.dispatch.dispatcher.capTarget = s.dispatcher.capTarget

/-- R124, R125: the service order holds exactly the charging sessions, by their class, queue stamp and outlet, with the minimum and
ceiling of their records; admission walks it from its head and queues from the first minimum that does not fit; and a dispatch
writes who is admitted. -/
def Obligations.AdmissionWalksTheOrder : Prop :=
  (∀ s : State,
    (∀ o, (∃ c ∈ s.serviceOrder, c.outlet = o) ↔ s.isCharging o = true) ∧
      (s.serviceOrder.map (·.outlet)).Nodup ∧
      (∀ c ∈ s.serviceOrder, c.minimum = (s.record c.outlet).minimum ∧ c.ceiling = (s.record c.outlet).ceiling ∧
        ∃ ses, s.slot c.outlet = some ses ∧ ses.state = .charging ∧ c.cls = ses.cls ∧
          ∀ start, ses.charge = some start → c.stamp = start.stamp) ∧
      s.serviceOrder.Pairwise fun a b => b.cls < a.cls ∨
        (a.cls = b.cls ∧ (a.stamp < b.stamp ∨ (a.stamp = b.stamp ∧ a.outlet < b.outlet)))) ∧
    (∀ (s t : State) (admitted : List Claim), t = s.dispatch →
      admitted = admitClaims t.dispatcher.available 0 t.serviceOrder →
      t.sessions = s.fundsStage.sessions ∧
        ∀ o, t.isCharging o = true →
          ((∃ c ∈ admitted, c.outlet = o) → (t.record o).admission = .admitted) ∧
          ((∀ c ∈ admitted, c.outlet ≠ o) → (t.record o).admission = .queued ∧ (t.record o).grant = 0)) ∧
    ∀ (A : Nat) (order : List Claim),
      ∃ queued, order = admitClaims A 0 order ++ queued ∧ ((admitClaims A 0 order).map (·.minimum)).sum ≤ A ∧
        ∀ c rest, queued = c :: rest → A < ((admitClaims A 0 order).map (·.minimum)).sum + c.minimum

/-- R126, R127: what is shared above the minimums: no session gets more than its room, all of it together is at most E, and every
admitted session of a class that is not given its whole room is given the same amount, at least as much as any other of the class.
The classes share in turn, 2 first, and a dispatch grants each admitted session its minimum and what it was given. -/
def Obligations.PowerSharedWithinRooms : Prop :=
  (∀ (s t : State) (admitted : List Claim) (e2 e1 e0 : Nat), t = s.dispatch →
    admitted = admitClaims t.dispatcher.available 0 t.serviceOrder →
    e2 = t.dispatcher.available - (admitted.map (·.minimum)).sum → e1 = (shareClass admitted 2 e2).2 →
    e0 = (shareClass admitted 1 e1).2 →
    ∀ c ∈ admitted,
      (c.cls = 2 → (t.record c.outlet).grant = c.minimum + amountFor (shareClass admitted 2 e2).1 c.outlet) ∧
      (c.cls = 1 → (t.record c.outlet).grant = c.minimum + amountFor (shareClass admitted 1 e1).1 c.outlet) ∧
      (c.cls = 0 → (t.record c.outlet).grant = c.minimum + amountFor (shareClass admitted 0 e0).1 c.outlet)) ∧
  (∀ (claims : List Claim) (e cls : Nat),
    shareClass claims cls e = shareClass (claims.filter fun c => c.cls == cls) cls e) ∧
  ∀ (claims : List Claim) (e : Nat) (cls : Nat),
    (claims.map (·.outlet)).Nodup → (∀ c ∈ claims, c.cls = cls ∧ c.minimum ≤ c.ceiling) →
    ((shareClass claims cls e).1.map (·.2)).sum + (shareClass claims cls e).2 = e ∧
      (∀ o, (∃ n, (o, n) ∈ (shareClass claims cls e).1) ↔ ∃ c ∈ claims, c.outlet = o) ∧
      (∀ c ∈ claims, amountFor (shareClass claims cls e).1 c.outlet ≤ c.ceiling - c.minimum) ∧
      (∀ c ∈ claims, amountFor (shareClass claims cls e).1 c.outlet < c.ceiling - c.minimum →
        ∀ d ∈ claims, amountFor (shareClass claims cls e).1 d.outlet ≤ amountFor (shareClass claims cls e).1 c.outlet) ∧
      ((∃ c ∈ claims, amountFor (shareClass claims cls e).1 c.outlet < c.ceiling - c.minimum) →
        (shareClass claims cls e).2 < claims.length)

/-! ### The pedestal line, R96 to R114 -/

/-- R98 to R103: a report frame of 15 characters is accepted into the exchange, or discarded and counted; one that has not ended is
held as begun (log 10). -/
def Obligations.ReportJudged : Prop :=
  ∀ (s : State) (o : Outlet) (body : Vector Byte 14) (ended : FrameEnd), s.held = false → s.line.sending = none →
    s.line.rx = .waiting ∨ s.line.rx = .assembling (BitVec.ofNat 8 o.val) →
    exec (.reportFrame o body .notYet) s = .next (s.setRx (.assembling (BitVec.ofNat 8 o.val))) ∧
    (∀ st, ended ≠ .notYet → PedestalState.ofCode (byteAt body.toList 2).toNat = some st → s.present o = true →
      s.control.mode = .operating → body.toList.drop 12 = toBytes 2 (frameCheck (body.toList.take 12)) →
      ∃ t : State, exec (.reportFrame o body ended) s = .next t ∧
        (t.exchange o).latest = some (s.exchange o).writing ∧
        (t.exchange o).buffers[(s.exchange o).writing] = some
          { echo := fieldAt body.toList 0 2
            state := st
            stopPressed := (byteAt body.toList 3).getLsbD 0
            requested := min (fieldAt body.toList 4 2) 40000
            measured := min (fieldAt body.toList 6 2) 40000
            meter := fieldAt body.toList 8 4 } ∧
        (∀ b, b ≠ (s.exchange o).writing → (t.exchange o).buffers[b] =
          if (s.exchange o).latest = some b then none else (s.exchange o).buffers[b]) ∧
        (t.exchange o).held = (s.exchange o).held ∧
        (t.exchange o).writing ≠ (s.exchange o).writing ∧ (s.exchange o).held ≠ some (t.exchange o).writing ∧
        (∀ b, b < (t.exchange o).writing → b = (s.exchange o).writing ∨ (s.exchange o).held = some b) ∧
        (∀ p, p ≠ o → t.exchange p = s.exchange p) ∧
        { t with exchanges := s.exchanges } =
          s.setRx (match ended with | .address a => .assembling a | _ => .waiting)) ∧
    (ended ≠ .notYet → PedestalState.ofCode (byteAt body.toList 2).toNat = none ∨ s.present o = false ∨
        s.control.mode = .maintenance ∨ body.toList.drop 12 ≠ toBytes 2 (frameCheck (body.toList.take 12)) →
      exec (.reportFrame o body ended) s =
        .next (((if s.control.mode = .maintenance then s.setExchange o { s.exchange o with writing := 0 } else s).setLink o
          { s.link o with discards := min ((s.link o).discards + 1) max32 }).setRx
            (match ended with | .address a => .assembling a | _ => .waiting)))

/-- R97 to R99, R101, R102: the other ends of a frame, the characters outside one, and the line seen high. In MAINTENANCE the WRITING
role of the frame's outlet is then at buffer 0. A frame that has not ended is held as begun (log 10). -/
def Obligations.FramesDiscarded : Prop :=
  (∀ (s b : State) (o : Outlet) (chars : Nat), s.held = false → s.line.sending = none →
    s.line.rx = .waiting ∨ s.line.rx = .assembling (BitVec.ofNat 8 o.val) →
    b = (if s.control.mode = .maintenance then s.setExchange o { s.exchange o with writing := 0 } else s) →
    (1 ≤ chars → chars ≤ 14 →
      exec (.gapTimeOut o chars) s =
        .next { b with line := { s.line with rx := .waiting, gapErrors := min (s.line.gapErrors + 1) max32 } }) ∧
    (1 ≤ chars → chars ≤ 14 → ∀ a,
      exec (.reportDiscard o chars (.address a)) s =
        .next ((b.setLink o { s.link o with discards := min ((s.link o).discards + 1) max32 }).setRx (.assembling a))) ∧
    (16 ≤ chars →
      exec (.reportDiscard o chars .gap) s =
        .next ((b.setLink o { s.link o with discards := min ((s.link o).discards + 1) max32 }).setRx .waiting) ∧
      ∀ a, exec (.reportDiscard o chars (.address a)) s =
        .next ((b.setLink o { s.link o with discards := min ((s.link o).discards + 1) max32 }).setRx (.assembling a))) ∧
    (1 ≤ chars →
      exec (.reportDiscard o chars .notYet) s = .next (s.setRx (.assembling (BitVec.ofNat 8 o.val))))) ∧
    (∀ (s : State) (a : Byte), s.held = false → s.line.sending = none → 16 ≤ a.toNat →
      s.line.rx = .waiting ∨ s.line.rx = .assembling a →
      exec (.unaddressedFrame a .gap) s = .next { s with line := { s.line with
        rx := .waiting, unaddressed := min (s.line.unaddressed + 1) max32 } } ∧
      exec (.unaddressedFrame a .notYet) s = .next (s.setRx (.assembling a)) ∧
      ∀ b, exec (.unaddressedFrame a (.address b)) s = .next { s with line := { s.line with
        rx := .assembling b, unaddressed := min (s.line.unaddressed + 1) max32 } }) ∧
    (∀ s : State, s.held = false → s.line.sending = none → s.line.rx = .waiting →
      exec .unaddressedCharacter s =
        .next { s with line := { s.line with unaddressed := min (s.line.unaddressed + 1) max32 } }) ∧
    (∀ s b : State, s.held = false → s.line.sending = none → s.line.rx ≠ .awaitingHigh →
      (s.control.mode = .operating ∨ s.line.rx = .waiting ∨ (∃ a, s.line.rx = .assembling a ∧ 16 ≤ a.toNat)) ∧ b = s ∨
        (∃ o : Outlet, s.control.mode = .maintenance ∧ s.line.rx = .assembling (BitVec.ofNat 8 o.val) ∧
          b = s.setExchange o { s.exchange o with writing := 0 }) →
      exec (.rejectedCharacter true) s = .next { b with line := { s.line with
        rx := .awaitingHigh, lineErrors := min (s.line.lineErrors + 1) max32 } } ∧
      exec (.rejectedCharacter false) s = .next { b with line := { s.line with
        rx := .waiting, lineErrors := min (s.line.lineErrors + 1) max32 } }) ∧
    ∀ s : State, s.held = false → s.line.rx = .awaitingHigh → exec .lineSeenHigh s = .next (s.setRx .waiting)

/-- R104 to R107, R16, R50: what a take of a present outlet does to the exchange, the miss counter and the link, and when it suspends
the session; what a fresh take does to the session stands in `ReportMovesSession`. An outlet that is not present is not taken. -/
def Obligations.TakesJudged : Prop :=
  (∀ (s : State) (o : Outlet), s.present o = false → s.take o = s) ∧
  ∀ (s : State) (o : Outlet), s.present o = true →
    (∀ b r, (s.exchange o).latest = some b → (s.exchange o).buffers[b] = some r → r.echo = s.line.cycleNumber →
      s.take o = s.freshTake o r ∧
        ((s.take o).exchange o).held = some b ∧ ((s.take o).exchange o).latest = none ∧
        ((s.take o).exchange o).writing = (s.exchange o).writing ∧
        (∀ c, ((s.take o).exchange o).buffers[c] =
          if (s.exchange o).held = some c then none else (s.exchange o).buffers[c]) ∧
        (s.take o).link o = { s.link o with miss := 0, link := .online }) ∧
    ((∀ b r, (s.exchange o).latest = some b → (s.exchange o).buffers[b] = some r → r.echo ≠ s.line.cycleNumber) →
      ((s.take o).exchange o).held = (s.exchange o).held ∧ ((s.take o).exchange o).latest = none ∧
        ((s.take o).exchange o).writing = (s.exchange o).writing ∧
        (∀ c, ((s.take o).exchange o).buffers[c] =
          if (s.exchange o).latest = some c then none else (s.exchange o).buffers[c]) ∧
        ((s.take o).link o).miss = min 255 ((s.link o).miss + 1) ∧
        { (s.take o).link o with miss := (s.link o).miss, link := (s.link o).link } = s.link o ∧
        { (s.take o).sessions with slots := s.sessions.slots } = s.sessions ∧ (s.take o).meters = s.meters ∧
        (min 255 ((s.link o).miss + 1) < s.control.park.missLimit ∨ (s.link o).link = .unreachable →
          ((s.take o).link o).link = (s.link o).link ∧ (s.take o).notices = s.notices ∧
            (s.take o).sessions = s.sessions ∧ (s.take o).pool = s.pool) ∧
        (s.control.park.missLimit ≤ min 255 ((s.link o).miss + 1) → (s.link o).link ≠ .unreachable →
          ((s.take o).link o).link = .unreachable ∧
            (s.take o).notices.site =
              { s.notices.site with unreachable := s.notices.site.unreachable ||| outletBit o } ∧
            (s.isCharging o = false → (∀ ses, s.slot o = some ses → ses.state ≠ .parked) →
              (s.take o).sessions = s.sessions ∧ (s.take o).pool = s.pool ∧
              (s.take o).notices.settlement = s.notices.settlement) ∧
            ∀ ses from', s.slot o = some ses →
              (ses.state = .charging ∧ from' = .charging) ∨ (ses.state = .parked ∧ from' = .parked) →
              (s.take o).slot o = some { ses.leaveParked with
                state := .suspended from' (s.clock.elapsed + s.control.park.resumeLimit * 1000) } ∧
              Released s (s.take o) o ∧
              (s.take o).notices.settlement =
                { s.notices.settlement with suspended := s.notices.settlement.suspended ||| outletBit o })) ∧
    (∀ p, p ≠ o → (s.take o).exchange p = s.exchange p ∧ (s.take o).link p = s.link p ∧
      (s.take o).slot p = s.slot p ∧ (s.take o).meter p = s.meter p) ∧
    { (s.take o).line with outlets := s.line.outlets } = s.line ∧
    (s.take o).sessions.nextNumber = s.sessions.nextNumber ∧
    { s.take o with sessions := s.sessions, pool := s.pool, notices := s.notices, meters := s.meters,
                    line := s.line, exchanges := s.exchanges } = s

/-- R43 to R46, R51, R75, R76: what a fresh take does to the session: resumption, STOP_PRESSED first and then the transition table, the
last meter register, and the overdraw check of a session in CHARGING before and after. -/
def Obligations.ReportMovesSession : Prop :=
  (∀ (s base t u : State) (o : Outlet) (r : Report) (limit : Nat),
    base = (s.setExchange o { buffers := match (s.exchange o).held with
                                | none => (s.exchange o).buffers
                                | some b => (s.exchange o).buffers.set b none
                              writing := (s.exchange o).writing, latest := none, held := (s.exchange o).latest }).setLink o
      { s.link o with miss := 0, link := .online } →
    t = (base.resume o).applyReport o r →
    u = t.setSlot o ((t.slot o).map fun v =>
      match v.state with
      | .closedWait _ _ => v
      | _ => { v with charge := v.charge.map fun c => { c with lastMeter := r.meter } }) →
    limit = (s.link o).published + max 20 ((s.link o).published / 20) →
    (s.isCharging o = false ∨ t.isCharging o = false → s.freshTake o r = u) ∧
    (s.isCharging o = true → t.isCharging o = true →
      (r.measured ≤ limit → s.freshTake o r = u.setMeter o { s.meter o with overdraw := 0 }) ∧
      (limit < r.measured → (s.meter o).overdraw < 2 →
        s.freshTake o r = u.setMeter o { s.meter o with overdraw := (s.meter o).overdraw + 1 }) ∧
      (limit < r.measured → 2 ≤ (s.meter o).overdraw →
        s.freshTake o r =
          ((u.setMeter o { s.meter o with overdraw := 3 }).enterStopping o .overdraw).raiseOutlet .overdraw o))) ∧
  ∀ (s : State) (o : Outlet) (ses : Session) (r : Report), s.slot o = some ses →
    (r.stopPressed = true → ((∃ d, ses.state = .armed d) ∨ ses.state = .charging ∨ ses.state = .parked) →
      s.applyReport o r = s.enterStopping o .user) ∧
    (r.stopPressed = false →
      (∀ d, ses.state = .armed d →
        (r.state = .empty ∨ r.state = .plugged ∨ r.state = .complete → s.applyReport o r = s) ∧
        (r.state = .fault → s.applyReport o r = s.enterStopping o .pedestalFault) ∧
        (r.state = .ready ∨ r.state = .charging → s.applyReport o r =
          ({ s.setSlot o (some { ses with
              state := .charging
              charge := some { stamp := s.sessions.nextStamp, meterStart := r.meter, lastMeter := r.meter,
                               startTime := s.clock.parkTime }
              feeCharged := ses.tariff.sessionFee }) with
            sessions.nextStamp := if s.sessions.nextStamp = 4294967295 then 1 else s.sessions.nextStamp + 1 }).raiseOutlet
              .sessionCharging o)) ∧
      (ses.state = .charging →
        (r.state = .empty → s.applyReport o r = s.enterStopping o .unplug) ∧
        (r.state = .plugged ∨ r.state = .ready ∨ r.state = .charging → s.applyReport o r = s) ∧
        (r.state = .complete →
          s.applyReport o r = (s.setSlot o (some { ses with state := .parked })).outletRelease o) ∧
        (r.state = .fault → s.applyReport o r = s.enterStopping o .pedestalFault)) ∧
      (ses.state = .parked →
        (r.state = .empty → s.applyReport o r = s.enterStopping o .unplug) ∧
        (r.state = .plugged ∨ r.state = .complete → s.applyReport o r = s) ∧
        (r.state = .ready ∨ r.state = .charging →
          s.applyReport o r = s.setSlot o (some { ses.leaveParked with state := .charging })) ∧
        (r.state = .fault → s.applyReport o r = s.enterStopping o .pedestalFault))) ∧
    ((∃ e n d, ses.state = .stopping e n d) ∨ (∃ q n, ses.state = .closedWait q n) → s.applyReport o r = s) ∧
    (∀ d, ses.state = .suspended .charging d → s.resume o = s.setSlot o (some { ses with state := .charging })) ∧
    ∀ d, ses.state = .suspended .parked d →
      s.resume o = (s.setSlot o (some { ses with state := .parked })).outletRelease o

/-- R13, R88, R108, R110, R119: a cycle expiry in OPERATING re-arms the timer one cycle period after the expiry reached, runs the takes
in ascending outlet number, the dispatch, whose funds evaluation takes the sessions in ascending outlet number (the model's choice,
log 22), and the hand-over; the opening begins at once on a free line, else it pends, replacing one that still pends. That the
wire's part of "free" comes with the command is the model's choice (log 9). -/
def Obligations.CycleExpiryRuns : Prop :=
  (∀ (s : State) (d : Nat) (quiet : Bool), s.held = false → s.control.mode = .operating →
    s.control.cycleTimer = some d → d ≤ s.clock.elapsed →
    exec (.cycleExpiry quiet) s =
      .next ((({ s with control := { s.control with
          cycleTimer := some (d + s.control.park.cyclePeriod) } } : State).takes.dispatch).handOver quiet)) ∧
    (∀ s : State, s.takes = (List.finRange 16).foldl State.take s ∧
      s.fundsStage = (List.finRange 16).foldl State.evaluateFunds s) ∧
    ∀ (s skipped : State) (quiet : Bool),
      skipped = (if s.line.openingPending then
        { s with
          line := { s.line with openingsSkipped := min (s.line.openingsSkipped + 1) max32 }
          notices := { s.notices with site.openingSkipped := true } } else s) →
      (quiet = true → s.line.rx = .waiting → s.line.sending = none → s.line.replyWindow = none →
        s.handOver quiet = skipped.beginOpening) ∧
      (quiet = false ∨ s.line.rx ≠ .waiting ∨ s.line.sending ≠ none ∨ s.line.replyWindow ≠ none →
        s.handOver quiet = { skipped with line := { skipped.line with openingPending := true } })

/-- R109, R111 to R114, R176: sending a pending opening builds the frame, its address character marked and the other 68 not, and
publishes the setpoints, each within its grant and its ACTIVE modules; all together within A where the grants are; then the reply
window opens, and closes. The command of each outlet is that of its session's state. -/
def Obligations.OpeningBuilt : Prop :=
  (∀ (s : State) (o : Outlet),
    (s.present o = false → s.command o = .idle ∧ s.activeCount o = 0) ∧
    (s.present o = true →
      s.activeCount o = allModules.countP (fun m => (s.module m).state == .active o) ∧
      (s.slot o = none → s.command o = .idle) ∧
      ∀ ses, s.slot o = some ses →
        ((∃ d, ses.state = .armed d) ∨ ses.state = .parked ∨ (∃ f d, ses.state = .suspended f d) → s.command o = .wait) ∧
        (ses.state = .charging → (s.record o).admission = .admitted → s.command o = .run) ∧
        (ses.state = .charging → (s.record o).admission ≠ .admitted → s.command o = .wait) ∧
        ((∃ r n d, ses.state = .stopping r n d) → s.command o = .stop) ∧
        ((∃ r n, ses.state = .closedWait r n) → s.command o = .idle))) ∧
  [Command.idle, .wait, .run, .stop].map Command.code = [0, 1, 2, 3] ∧
  (∀ s : State, s.held = false → s.line.openingPending = true → s.line.rx = .waiting → s.line.sending = none →
    s.line.replyWindow = none →
    ∃ t : State, exec .openingBegin s = .next t ∧
      t.line.cycleNumber = (s.line.cycleNumber + 1) % 65536 ∧ t.line.openingPending = false ∧
      t.line.sending = some (⟨true, 0x1F⟩ :: (withCheck (toBytes 2 t.line.cycleNumber ++ allOutlets.flatMap fun o =>
        toBytes 2 (t.link o).published ++ [(s.command o).code] ++ toBytes 1 (s.activeCount o))).map fun b => ⟨false, b⟩) ∧
      { t.line with cycleNumber := s.line.cycleNumber, openingPending := s.line.openingPending,
                    sending := s.line.sending, outlets := s.line.outlets } = s.line ∧
      (∀ o, t.link o = { s.link o with published := (t.link o).published } ∧
        (t.link o).published ≤ (s.record o).grant ∧
        (t.link o).published ≤ s.control.park.moduleRating.getD 0 *
          allModules.countP (fun m => (s.module m).state == .active o) ∧
        (s.command o = .run →
          (t.link o).published = min (s.record o).grant (s.activeCount o * s.control.park.moduleRating.getD 0)) ∧
        (s.command o ≠ .run → (t.link o).published = 0)) ∧
      (GrantInv s → (allOutlets.map fun o => (t.link o).published).sum ≤ s.dispatcher.available) ∧
      { t with line := s.line } = s) ∧
    (∀ (s : State) (frame : List LineChar), s.held = false → s.line.sending = some frame →
      exec .openingEnd s = .next { s with line := { s.line with
        sending := none, replyWindow := some (s.clock.elapsed + 16 * s.control.park.slotLength) } }) ∧
    ∀ (s : State) (d : Nat), s.held = false → s.line.replyWindow = some d → d ≤ s.clock.elapsed →
      exec .replyWindowClose s = .next { s with line := { s.line with replyWindow := none } }

/-! ### Frames and their commands -/

/-- R1, R166, R169, R170, R172, R177: the frame that a request command, or an incoming cabinet message, spells is judged to be that
command, with every operand. -/
def Obligations.FramesDecodeToTheirCommands : Prop :=
  (∀ (i : Instr) (p : PortId) (code : Byte) (payload : List Byte), i.wellFormed = true →
    encodeRequest i = some (p, code, payload) →
    (requestFrame code payload).complete = true ∧ judgeFrame p (requestFrame code payload) = .request i) ∧
    ∀ (i : Instr) (code : Byte) (payload : List Byte), encodeCabinet i = some (code, payload) →
      (requestFrame code payload).complete = true ∧ judgeCabinet (requestFrame code payload) = .message i

/-! ### What every step keeps -/

/-- R2, R9 to R16: MAINTENANCE and absent outlets stay at rest, OPERATING keeps a configuration that passes R10. -/
def Obligations.ModeKept : Prop := ∀ s t : State, ModeInv s → step s = .next t → ModeInv t

/-- R102: the roles of the report exchange lie on distinct buffers. -/
def Obligations.ExchangeRolesKept : Prop :=
  ∀ s t : State, ModeInv s → ExchangeInv s → step s = .next t → ExchangeInv t

/-- R128, R129, R136, R137, R151: modules are assigned within reach and limits, and the cabinet queue holds one message a module. -/
def Obligations.ModulePoolKept : Prop :=
  ∀ s t : State, ModeInv s → PoolInv s → CabinetInv s → step s = .next t → PoolInv t ∧ CabinetInv t

/-- R47, R57, R59: modules serve only charging sessions, and a settle deadline is set exactly when the outlet holds no module. -/
def Obligations.ReleasesKept : Prop :=
  ∀ s t : State, ModeInv s → ReleaseInv s → step s = .next t → ReleaseInv t

/-- R40, R70, R81, R93, R154: billed energy is exactly priced, and no record bills more than its hold. -/
def Obligations.MoneyKept : Prop := ∀ s t : State, MoneyInv s → step s = .next t → MoneyInv t

/-- R20, R21, R25, R28: the clock's bounds, and park time does not go back once the clock has been set. -/
def Obligations.ClockKept : Prop :=
  ∀ s t : State, ClockInv s → step s = .next t →
    ClockInv t ∧ (s.held = false → t.held = false → s.clock.sync ≠ .unsynced → s.clock.parkTime ≤ t.clock.parkTime)

/-- R120, R123, R125, R127: the grants of the last dispatch sum to no more than A. -/
def Obligations.GrantsKept : Prop := ∀ s t : State, ModeInv s → GrantInv s → step s = .next t → GrantInv t

/-- R39, R155, R156, R160, R167: the queues keep within their room, sessions wait only while the closure queue is full, and session
numbers are distinct. -/
def Obligations.QueuesAndNumbersKept : Prop :=
  ∀ s t : State, RoomInv s → WaitsOnlyWhenFull s → NumbersInv s → step s = .next t →
    RoomInv t ∧ WaitsOnlyWhenFull t ∧ NumbersInv t
end

