-- ==== Sys2Proof/Laws/State.lean ====
section
/-! SUPPORT. What each named update leaves: one lemma per field of State. -/

namespace Sys2Proof.Machine

variable (s : State)

/-! ### setSlot -/

@[simp] theorem held_setSlot (o : Outlet) (v : Option Session) : (s.setSlot o v).held = s.held := rfl
@[simp] theorem control_setSlot (o : Outlet) (v : Option Session) : (s.setSlot o v).control = s.control := rfl
@[simp] theorem clock_setSlot (o : Outlet) (v : Option Session) : (s.setSlot o v).clock = s.clock := rfl
@[simp] theorem plans_setSlot (o : Outlet) (v : Option Session) : (s.setSlot o v).plans = s.plans := rfl
@[simp] theorem meters_setSlot (o : Outlet) (v : Option Session) : (s.setSlot o v).meters = s.meters := rfl
@[simp] theorem line_setSlot (o : Outlet) (v : Option Session) : (s.setSlot o v).line = s.line := rfl
@[simp] theorem exchanges_setSlot (o : Outlet) (v : Option Session) : (s.setSlot o v).exchanges = s.exchanges := rfl
@[simp] theorem dispatcher_setSlot (o : Outlet) (v : Option Session) : (s.setSlot o v).dispatcher = s.dispatcher := rfl
@[simp] theorem pool_setSlot (o : Outlet) (v : Option Session) : (s.setSlot o v).pool = s.pool := rfl
@[simp] theorem closures_setSlot (o : Outlet) (v : Option Session) : (s.setSlot o v).closures = s.closures := rfl
@[simp] theorem notices_setSlot (o : Outlet) (v : Option Session) : (s.setSlot o v).notices = s.notices := rfl
@[simp] theorem ports_setSlot (o : Outlet) (v : Option Session) : (s.setSlot o v).ports = s.ports := rfl
@[simp] theorem pending_setSlot (o : Outlet) (v : Option Session) : (s.setSlot o v).pending = s.pending := rfl

/-! ### setMeter -/

@[simp] theorem held_setMeter (o : Outlet) (v : Meter) : (s.setMeter o v).held = s.held := rfl
@[simp] theorem control_setMeter (o : Outlet) (v : Meter) : (s.setMeter o v).control = s.control := rfl
@[simp] theorem clock_setMeter (o : Outlet) (v : Meter) : (s.setMeter o v).clock = s.clock := rfl
@[simp] theorem plans_setMeter (o : Outlet) (v : Meter) : (s.setMeter o v).plans = s.plans := rfl
@[simp] theorem sessions_setMeter (o : Outlet) (v : Meter) : (s.setMeter o v).sessions = s.sessions := rfl
@[simp] theorem line_setMeter (o : Outlet) (v : Meter) : (s.setMeter o v).line = s.line := rfl
@[simp] theorem exchanges_setMeter (o : Outlet) (v : Meter) : (s.setMeter o v).exchanges = s.exchanges := rfl
@[simp] theorem dispatcher_setMeter (o : Outlet) (v : Meter) : (s.setMeter o v).dispatcher = s.dispatcher := rfl
@[simp] theorem pool_setMeter (o : Outlet) (v : Meter) : (s.setMeter o v).pool = s.pool := rfl
@[simp] theorem closures_setMeter (o : Outlet) (v : Meter) : (s.setMeter o v).closures = s.closures := rfl
@[simp] theorem notices_setMeter (o : Outlet) (v : Meter) : (s.setMeter o v).notices = s.notices := rfl
@[simp] theorem ports_setMeter (o : Outlet) (v : Meter) : (s.setMeter o v).ports = s.ports := rfl
@[simp] theorem pending_setMeter (o : Outlet) (v : Meter) : (s.setMeter o v).pending = s.pending := rfl

/-! ### setLink -/

@[simp] theorem held_setLink (o : Outlet) (v : OutletLink) : (s.setLink o v).held = s.held := rfl
@[simp] theorem control_setLink (o : Outlet) (v : OutletLink) : (s.setLink o v).control = s.control := rfl
@[simp] theorem clock_setLink (o : Outlet) (v : OutletLink) : (s.setLink o v).clock = s.clock := rfl
@[simp] theorem plans_setLink (o : Outlet) (v : OutletLink) : (s.setLink o v).plans = s.plans := rfl
@[simp] theorem sessions_setLink (o : Outlet) (v : OutletLink) : (s.setLink o v).sessions = s.sessions := rfl
@[simp] theorem meters_setLink (o : Outlet) (v : OutletLink) : (s.setLink o v).meters = s.meters := rfl
@[simp] theorem exchanges_setLink (o : Outlet) (v : OutletLink) : (s.setLink o v).exchanges = s.exchanges := rfl
@[simp] theorem dispatcher_setLink (o : Outlet) (v : OutletLink) : (s.setLink o v).dispatcher = s.dispatcher := rfl
@[simp] theorem pool_setLink (o : Outlet) (v : OutletLink) : (s.setLink o v).pool = s.pool := rfl
@[simp] theorem closures_setLink (o : Outlet) (v : OutletLink) : (s.setLink o v).closures = s.closures := rfl
@[simp] theorem notices_setLink (o : Outlet) (v : OutletLink) : (s.setLink o v).notices = s.notices := rfl
@[simp] theorem ports_setLink (o : Outlet) (v : OutletLink) : (s.setLink o v).ports = s.ports := rfl
@[simp] theorem pending_setLink (o : Outlet) (v : OutletLink) : (s.setLink o v).pending = s.pending := rfl

/-! ### setExchange -/

@[simp] theorem held_setExchange (o : Outlet) (v : Exchange) : (s.setExchange o v).held = s.held := rfl
@[simp] theorem control_setExchange (o : Outlet) (v : Exchange) : (s.setExchange o v).control = s.control := rfl
@[simp] theorem clock_setExchange (o : Outlet) (v : Exchange) : (s.setExchange o v).clock = s.clock := rfl
@[simp] theorem plans_setExchange (o : Outlet) (v : Exchange) : (s.setExchange o v).plans = s.plans := rfl
@[simp] theorem sessions_setExchange (o : Outlet) (v : Exchange) : (s.setExchange o v).sessions = s.sessions := rfl
@[simp] theorem meters_setExchange (o : Outlet) (v : Exchange) : (s.setExchange o v).meters = s.meters := rfl
@[simp] theorem line_setExchange (o : Outlet) (v : Exchange) : (s.setExchange o v).line = s.line := rfl
@[simp] theorem dispatcher_setExchange (o : Outlet) (v : Exchange) : (s.setExchange o v).dispatcher = s.dispatcher := rfl
@[simp] theorem pool_setExchange (o : Outlet) (v : Exchange) : (s.setExchange o v).pool = s.pool := rfl
@[simp] theorem closures_setExchange (o : Outlet) (v : Exchange) : (s.setExchange o v).closures = s.closures := rfl
@[simp] theorem notices_setExchange (o : Outlet) (v : Exchange) : (s.setExchange o v).notices = s.notices := rfl
@[simp] theorem ports_setExchange (o : Outlet) (v : Exchange) : (s.setExchange o v).ports = s.ports := rfl
@[simp] theorem pending_setExchange (o : Outlet) (v : Exchange) : (s.setExchange o v).pending = s.pending := rfl

/-! ### setRecord -/

@[simp] theorem held_setRecord (o : Outlet) (v : DispatchRecord) : (s.setRecord o v).held = s.held := rfl
@[simp] theorem control_setRecord (o : Outlet) (v : DispatchRecord) : (s.setRecord o v).control = s.control := rfl
@[simp] theorem clock_setRecord (o : Outlet) (v : DispatchRecord) : (s.setRecord o v).clock = s.clock := rfl
@[simp] theorem plans_setRecord (o : Outlet) (v : DispatchRecord) : (s.setRecord o v).plans = s.plans := rfl
@[simp] theorem sessions_setRecord (o : Outlet) (v : DispatchRecord) : (s.setRecord o v).sessions = s.sessions := rfl
@[simp] theorem meters_setRecord (o : Outlet) (v : DispatchRecord) : (s.setRecord o v).meters = s.meters := rfl
@[simp] theorem line_setRecord (o : Outlet) (v : DispatchRecord) : (s.setRecord o v).line = s.line := rfl
@[simp] theorem exchanges_setRecord (o : Outlet) (v : DispatchRecord) : (s.setRecord o v).exchanges = s.exchanges := rfl
@[simp] theorem pool_setRecord (o : Outlet) (v : DispatchRecord) : (s.setRecord o v).pool = s.pool := rfl
@[simp] theorem closures_setRecord (o : Outlet) (v : DispatchRecord) : (s.setRecord o v).closures = s.closures := rfl
@[simp] theorem notices_setRecord (o : Outlet) (v : DispatchRecord) : (s.setRecord o v).notices = s.notices := rfl
@[simp] theorem ports_setRecord (o : Outlet) (v : DispatchRecord) : (s.setRecord o v).ports = s.ports := rfl
@[simp] theorem pending_setRecord (o : Outlet) (v : DispatchRecord) : (s.setRecord o v).pending = s.pending := rfl

/-! ### setModule -/

@[simp] theorem held_setModule (m : ModuleNo) (v : Module) : (s.setModule m v).held = s.held := rfl
@[simp] theorem control_setModule (m : ModuleNo) (v : Module) : (s.setModule m v).control = s.control := rfl
@[simp] theorem clock_setModule (m : ModuleNo) (v : Module) : (s.setModule m v).clock = s.clock := rfl
@[simp] theorem plans_setModule (m : ModuleNo) (v : Module) : (s.setModule m v).plans = s.plans := rfl
@[simp] theorem sessions_setModule (m : ModuleNo) (v : Module) : (s.setModule m v).sessions = s.sessions := rfl
@[simp] theorem meters_setModule (m : ModuleNo) (v : Module) : (s.setModule m v).meters = s.meters := rfl
@[simp] theorem line_setModule (m : ModuleNo) (v : Module) : (s.setModule m v).line = s.line := rfl
@[simp] theorem exchanges_setModule (m : ModuleNo) (v : Module) : (s.setModule m v).exchanges = s.exchanges := rfl
@[simp] theorem dispatcher_setModule (m : ModuleNo) (v : Module) : (s.setModule m v).dispatcher = s.dispatcher := rfl
@[simp] theorem closures_setModule (m : ModuleNo) (v : Module) : (s.setModule m v).closures = s.closures := rfl
@[simp] theorem notices_setModule (m : ModuleNo) (v : Module) : (s.setModule m v).notices = s.notices := rfl
@[simp] theorem ports_setModule (m : ModuleNo) (v : Module) : (s.setModule m v).ports = s.ports := rfl
@[simp] theorem pending_setModule (m : ModuleNo) (v : Module) : (s.setModule m v).pending = s.pending := rfl

/-! ### setModuleState -/

@[simp] theorem held_setModuleState (m : ModuleNo) (v : ModuleState) : (s.setModuleState m v).held = s.held := rfl
@[simp] theorem control_setModuleState (m : ModuleNo) (v : ModuleState) : (s.setModuleState m v).control = s.control := rfl
@[simp] theorem clock_setModuleState (m : ModuleNo) (v : ModuleState) : (s.setModuleState m v).clock = s.clock := rfl
@[simp] theorem plans_setModuleState (m : ModuleNo) (v : ModuleState) : (s.setModuleState m v).plans = s.plans := rfl
@[simp] theorem sessions_setModuleState (m : ModuleNo) (v : ModuleState) : (s.setModuleState m v).sessions = s.sessions := rfl
@[simp] theorem meters_setModuleState (m : ModuleNo) (v : ModuleState) : (s.setModuleState m v).meters = s.meters := rfl
@[simp] theorem line_setModuleState (m : ModuleNo) (v : ModuleState) : (s.setModuleState m v).line = s.line := rfl
@[simp] theorem exchanges_setModuleState (m : ModuleNo) (v : ModuleState) : (s.setModuleState m v).exchanges = s.exchanges := rfl
@[simp] theorem dispatcher_setModuleState (m : ModuleNo) (v : ModuleState) : (s.setModuleState m v).dispatcher = s.dispatcher := rfl
@[simp] theorem closures_setModuleState (m : ModuleNo) (v : ModuleState) : (s.setModuleState m v).closures = s.closures := rfl
@[simp] theorem notices_setModuleState (m : ModuleNo) (v : ModuleState) : (s.setModuleState m v).notices = s.notices := rfl
@[simp] theorem ports_setModuleState (m : ModuleNo) (v : ModuleState) : (s.setModuleState m v).ports = s.ports := rfl
@[simp] theorem pending_setModuleState (m : ModuleNo) (v : ModuleState) : (s.setModuleState m v).pending = s.pending := rfl

/-! ### setCabinet -/

@[simp] theorem held_setCabinet (v : CabinetLink) : (s.setCabinet v).held = s.held := rfl
@[simp] theorem control_setCabinet (v : CabinetLink) : (s.setCabinet v).control = s.control := rfl
@[simp] theorem clock_setCabinet (v : CabinetLink) : (s.setCabinet v).clock = s.clock := rfl
@[simp] theorem plans_setCabinet (v : CabinetLink) : (s.setCabinet v).plans = s.plans := rfl
@[simp] theorem sessions_setCabinet (v : CabinetLink) : (s.setCabinet v).sessions = s.sessions := rfl
@[simp] theorem meters_setCabinet (v : CabinetLink) : (s.setCabinet v).meters = s.meters := rfl
@[simp] theorem line_setCabinet (v : CabinetLink) : (s.setCabinet v).line = s.line := rfl
@[simp] theorem exchanges_setCabinet (v : CabinetLink) : (s.setCabinet v).exchanges = s.exchanges := rfl
@[simp] theorem dispatcher_setCabinet (v : CabinetLink) : (s.setCabinet v).dispatcher = s.dispatcher := rfl
@[simp] theorem closures_setCabinet (v : CabinetLink) : (s.setCabinet v).closures = s.closures := rfl
@[simp] theorem notices_setCabinet (v : CabinetLink) : (s.setCabinet v).notices = s.notices := rfl
@[simp] theorem ports_setCabinet (v : CabinetLink) : (s.setCabinet v).ports = s.ports := rfl
@[simp] theorem pending_setCabinet (v : CabinetLink) : (s.setCabinet v).pending = s.pending := rfl

/-! ### issue -/

@[simp] theorem held_issue (v : CabinetMsg) : (s.issue v).held = s.held := rfl
@[simp] theorem control_issue (v : CabinetMsg) : (s.issue v).control = s.control := rfl
@[simp] theorem clock_issue (v : CabinetMsg) : (s.issue v).clock = s.clock := rfl
@[simp] theorem plans_issue (v : CabinetMsg) : (s.issue v).plans = s.plans := rfl
@[simp] theorem sessions_issue (v : CabinetMsg) : (s.issue v).sessions = s.sessions := rfl
@[simp] theorem meters_issue (v : CabinetMsg) : (s.issue v).meters = s.meters := rfl
@[simp] theorem line_issue (v : CabinetMsg) : (s.issue v).line = s.line := rfl
@[simp] theorem exchanges_issue (v : CabinetMsg) : (s.issue v).exchanges = s.exchanges := rfl
@[simp] theorem dispatcher_issue (v : CabinetMsg) : (s.issue v).dispatcher = s.dispatcher := rfl
@[simp] theorem closures_issue (v : CabinetMsg) : (s.issue v).closures = s.closures := rfl
@[simp] theorem notices_issue (v : CabinetMsg) : (s.issue v).notices = s.notices := rfl
@[simp] theorem ports_issue (v : CabinetMsg) : (s.issue v).ports = s.ports := rfl
@[simp] theorem pending_issue (v : CabinetMsg) : (s.issue v).pending = s.pending := rfl

/-! ### setPort -/

@[simp] theorem held_setPort (p : PortId) (v : Port) : (s.setPort p v).held = s.held := by cases p <;> rfl
@[simp] theorem control_setPort (p : PortId) (v : Port) : (s.setPort p v).control = s.control := by cases p <;> rfl
@[simp] theorem clock_setPort (p : PortId) (v : Port) : (s.setPort p v).clock = s.clock := by cases p <;> rfl
@[simp] theorem plans_setPort (p : PortId) (v : Port) : (s.setPort p v).plans = s.plans := by cases p <;> rfl
@[simp] theorem sessions_setPort (p : PortId) (v : Port) : (s.setPort p v).sessions = s.sessions := by cases p <;> rfl
@[simp] theorem meters_setPort (p : PortId) (v : Port) : (s.setPort p v).meters = s.meters := by cases p <;> rfl
@[simp] theorem line_setPort (p : PortId) (v : Port) : (s.setPort p v).line = s.line := by cases p <;> rfl
@[simp] theorem exchanges_setPort (p : PortId) (v : Port) : (s.setPort p v).exchanges = s.exchanges := by cases p <;> rfl
@[simp] theorem dispatcher_setPort (p : PortId) (v : Port) : (s.setPort p v).dispatcher = s.dispatcher := by cases p <;> rfl
@[simp] theorem pool_setPort (p : PortId) (v : Port) : (s.setPort p v).pool = s.pool := by cases p <;> rfl
@[simp] theorem closures_setPort (p : PortId) (v : Port) : (s.setPort p v).closures = s.closures := by cases p <;> rfl
@[simp] theorem notices_setPort (p : PortId) (v : Port) : (s.setPort p v).notices = s.notices := by cases p <;> rfl
@[simp] theorem pending_setPort (p : PortId) (v : Port) : (s.setPort p v).pending = s.pending := by cases p <;> rfl

/-! ### respond -/

@[simp] theorem held_respond (p : PortId) (c : Byte) (t : Status) (l : List Byte) : (s.respond p c t l).held = s.held := by cases p <;> rfl
@[simp] theorem control_respond (p : PortId) (c : Byte) (t : Status) (l : List Byte) : (s.respond p c t l).control = s.control := by cases p <;> rfl
@[simp] theorem clock_respond (p : PortId) (c : Byte) (t : Status) (l : List Byte) : (s.respond p c t l).clock = s.clock := by cases p <;> rfl
@[simp] theorem plans_respond (p : PortId) (c : Byte) (t : Status) (l : List Byte) : (s.respond p c t l).plans = s.plans := by cases p <;> rfl
@[simp] theorem sessions_respond (p : PortId) (c : Byte) (t : Status) (l : List Byte) : (s.respond p c t l).sessions = s.sessions := by cases p <;> rfl
@[simp] theorem meters_respond (p : PortId) (c : Byte) (t : Status) (l : List Byte) : (s.respond p c t l).meters = s.meters := by cases p <;> rfl
@[simp] theorem line_respond (p : PortId) (c : Byte) (t : Status) (l : List Byte) : (s.respond p c t l).line = s.line := by cases p <;> rfl
@[simp] theorem exchanges_respond (p : PortId) (c : Byte) (t : Status) (l : List Byte) : (s.respond p c t l).exchanges = s.exchanges := by cases p <;> rfl
@[simp] theorem dispatcher_respond (p : PortId) (c : Byte) (t : Status) (l : List Byte) : (s.respond p c t l).dispatcher = s.dispatcher := by cases p <;> rfl
@[simp] theorem pool_respond (p : PortId) (c : Byte) (t : Status) (l : List Byte) : (s.respond p c t l).pool = s.pool := by cases p <;> rfl
@[simp] theorem closures_respond (p : PortId) (c : Byte) (t : Status) (l : List Byte) : (s.respond p c t l).closures = s.closures := by cases p <;> rfl
@[simp] theorem notices_respond (p : PortId) (c : Byte) (t : Status) (l : List Byte) : (s.respond p c t l).notices = s.notices := by cases p <;> rfl
@[simp] theorem pending_respond (p : PortId) (c : Byte) (t : Status) (l : List Byte) : (s.respond p c t l).pending = s.pending := by cases p <;> rfl

/-! ### overrun -/

@[simp] theorem held_overrun (p : PortId) : (s.overrun p).held = s.held := by cases p <;> rfl
@[simp] theorem control_overrun (p : PortId) : (s.overrun p).control = s.control := by cases p <;> rfl
@[simp] theorem clock_overrun (p : PortId) : (s.overrun p).clock = s.clock := by cases p <;> rfl
@[simp] theorem plans_overrun (p : PortId) : (s.overrun p).plans = s.plans := by cases p <;> rfl
@[simp] theorem sessions_overrun (p : PortId) : (s.overrun p).sessions = s.sessions := by cases p <;> rfl
@[simp] theorem meters_overrun (p : PortId) : (s.overrun p).meters = s.meters := by cases p <;> rfl
@[simp] theorem line_overrun (p : PortId) : (s.overrun p).line = s.line := by cases p <;> rfl
@[simp] theorem exchanges_overrun (p : PortId) : (s.overrun p).exchanges = s.exchanges := by cases p <;> rfl
@[simp] theorem dispatcher_overrun (p : PortId) : (s.overrun p).dispatcher = s.dispatcher := by cases p <;> rfl
@[simp] theorem pool_overrun (p : PortId) : (s.overrun p).pool = s.pool := by cases p <;> rfl
@[simp] theorem closures_overrun (p : PortId) : (s.overrun p).closures = s.closures := by cases p <;> rfl
@[simp] theorem notices_overrun (p : PortId) : (s.overrun p).notices = s.notices := by cases p <;> rfl
@[simp] theorem pending_overrun (p : PortId) : (s.overrun p).pending = s.pending := by cases p <;> rfl

/-! ### raiseOutlet -/

@[simp] theorem held_raiseOutlet (k : OutletNotice) (o : Outlet) : (s.raiseOutlet k o).held = s.held := rfl
@[simp] theorem control_raiseOutlet (k : OutletNotice) (o : Outlet) : (s.raiseOutlet k o).control = s.control := rfl
@[simp] theorem clock_raiseOutlet (k : OutletNotice) (o : Outlet) : (s.raiseOutlet k o).clock = s.clock := rfl
@[simp] theorem plans_raiseOutlet (k : OutletNotice) (o : Outlet) : (s.raiseOutlet k o).plans = s.plans := rfl
@[simp] theorem sessions_raiseOutlet (k : OutletNotice) (o : Outlet) : (s.raiseOutlet k o).sessions = s.sessions := rfl
@[simp] theorem meters_raiseOutlet (k : OutletNotice) (o : Outlet) : (s.raiseOutlet k o).meters = s.meters := rfl
@[simp] theorem line_raiseOutlet (k : OutletNotice) (o : Outlet) : (s.raiseOutlet k o).line = s.line := rfl
@[simp] theorem exchanges_raiseOutlet (k : OutletNotice) (o : Outlet) : (s.raiseOutlet k o).exchanges = s.exchanges := rfl
@[simp] theorem dispatcher_raiseOutlet (k : OutletNotice) (o : Outlet) : (s.raiseOutlet k o).dispatcher = s.dispatcher := rfl
@[simp] theorem pool_raiseOutlet (k : OutletNotice) (o : Outlet) : (s.raiseOutlet k o).pool = s.pool := rfl
@[simp] theorem closures_raiseOutlet (k : OutletNotice) (o : Outlet) : (s.raiseOutlet k o).closures = s.closures := rfl
@[simp] theorem ports_raiseOutlet (k : OutletNotice) (o : Outlet) : (s.raiseOutlet k o).ports = s.ports := rfl
@[simp] theorem pending_raiseOutlet (k : OutletNotice) (o : Outlet) : (s.raiseOutlet k o).pending = s.pending := rfl

/-! ### raise -/

@[simp] theorem held_raise (k : PlainNotice) : (s.raise k).held = s.held := rfl
@[simp] theorem control_raise (k : PlainNotice) : (s.raise k).control = s.control := rfl
@[simp] theorem clock_raise (k : PlainNotice) : (s.raise k).clock = s.clock := rfl
@[simp] theorem plans_raise (k : PlainNotice) : (s.raise k).plans = s.plans := rfl
@[simp] theorem sessions_raise (k : PlainNotice) : (s.raise k).sessions = s.sessions := rfl
@[simp] theorem meters_raise (k : PlainNotice) : (s.raise k).meters = s.meters := rfl
@[simp] theorem line_raise (k : PlainNotice) : (s.raise k).line = s.line := rfl
@[simp] theorem exchanges_raise (k : PlainNotice) : (s.raise k).exchanges = s.exchanges := rfl
@[simp] theorem dispatcher_raise (k : PlainNotice) : (s.raise k).dispatcher = s.dispatcher := rfl
@[simp] theorem pool_raise (k : PlainNotice) : (s.raise k).pool = s.pool := rfl
@[simp] theorem closures_raise (k : PlainNotice) : (s.raise k).closures = s.closures := rfl
@[simp] theorem ports_raise (k : PlainNotice) : (s.raise k).ports = s.ports := rfl
@[simp] theorem pending_raise (k : PlainNotice) : (s.raise k).pending = s.pending := rfl

/-! ### raiseModuleFault -/

@[simp] theorem held_raiseModuleFault (m : ModuleNo) : (s.raiseModuleFault m).held = s.held := rfl
@[simp] theorem control_raiseModuleFault (m : ModuleNo) : (s.raiseModuleFault m).control = s.control := rfl
@[simp] theorem clock_raiseModuleFault (m : ModuleNo) : (s.raiseModuleFault m).clock = s.clock := rfl
@[simp] theorem plans_raiseModuleFault (m : ModuleNo) : (s.raiseModuleFault m).plans = s.plans := rfl
@[simp] theorem sessions_raiseModuleFault (m : ModuleNo) : (s.raiseModuleFault m).sessions = s.sessions := rfl
@[simp] theorem meters_raiseModuleFault (m : ModuleNo) : (s.raiseModuleFault m).meters = s.meters := rfl
@[simp] theorem line_raiseModuleFault (m : ModuleNo) : (s.raiseModuleFault m).line = s.line := rfl
@[simp] theorem exchanges_raiseModuleFault (m : ModuleNo) : (s.raiseModuleFault m).exchanges = s.exchanges := rfl
@[simp] theorem dispatcher_raiseModuleFault (m : ModuleNo) : (s.raiseModuleFault m).dispatcher = s.dispatcher := rfl
@[simp] theorem pool_raiseModuleFault (m : ModuleNo) : (s.raiseModuleFault m).pool = s.pool := rfl
@[simp] theorem closures_raiseModuleFault (m : ModuleNo) : (s.raiseModuleFault m).closures = s.closures := rfl
@[simp] theorem ports_raiseModuleFault (m : ModuleNo) : (s.raiseModuleFault m).ports = s.ports := rfl
@[simp] theorem pending_raiseModuleFault (m : ModuleNo) : (s.raiseModuleFault m).pending = s.pending := rfl

/-! ### setRx -/

@[simp] theorem held_setRx (r : LineRx) : (s.setRx r).held = s.held := rfl
@[simp] theorem control_setRx (r : LineRx) : (s.setRx r).control = s.control := rfl
@[simp] theorem clock_setRx (r : LineRx) : (s.setRx r).clock = s.clock := rfl
@[simp] theorem plans_setRx (r : LineRx) : (s.setRx r).plans = s.plans := rfl
@[simp] theorem sessions_setRx (r : LineRx) : (s.setRx r).sessions = s.sessions := rfl
@[simp] theorem meters_setRx (r : LineRx) : (s.setRx r).meters = s.meters := rfl
@[simp] theorem exchanges_setRx (r : LineRx) : (s.setRx r).exchanges = s.exchanges := rfl
@[simp] theorem dispatcher_setRx (r : LineRx) : (s.setRx r).dispatcher = s.dispatcher := rfl
@[simp] theorem pool_setRx (r : LineRx) : (s.setRx r).pool = s.pool := rfl
@[simp] theorem closures_setRx (r : LineRx) : (s.setRx r).closures = s.closures := rfl
@[simp] theorem notices_setRx (r : LineRx) : (s.setRx r).notices = s.notices := rfl
@[simp] theorem ports_setRx (r : LineRx) : (s.setRx r).ports = s.ports := rfl
@[simp] theorem pending_setRx (r : LineRx) : (s.setRx r).pending = s.pending := rfl

/-! ### setPlan -/

@[simp] theorem held_setPlan (n : Fin 8) (v : Plan) : (s.setPlan n v).held = s.held := rfl
@[simp] theorem control_setPlan (n : Fin 8) (v : Plan) : (s.setPlan n v).control = s.control := rfl
@[simp] theorem clock_setPlan (n : Fin 8) (v : Plan) : (s.setPlan n v).clock = s.clock := rfl
@[simp] theorem sessions_setPlan (n : Fin 8) (v : Plan) : (s.setPlan n v).sessions = s.sessions := rfl
@[simp] theorem meters_setPlan (n : Fin 8) (v : Plan) : (s.setPlan n v).meters = s.meters := rfl
@[simp] theorem line_setPlan (n : Fin 8) (v : Plan) : (s.setPlan n v).line = s.line := rfl
@[simp] theorem exchanges_setPlan (n : Fin 8) (v : Plan) : (s.setPlan n v).exchanges = s.exchanges := rfl
@[simp] theorem dispatcher_setPlan (n : Fin 8) (v : Plan) : (s.setPlan n v).dispatcher = s.dispatcher := rfl
@[simp] theorem pool_setPlan (n : Fin 8) (v : Plan) : (s.setPlan n v).pool = s.pool := rfl
@[simp] theorem closures_setPlan (n : Fin 8) (v : Plan) : (s.setPlan n v).closures = s.closures := rfl
@[simp] theorem notices_setPlan (n : Fin 8) (v : Plan) : (s.setPlan n v).notices = s.notices := rfl
@[simp] theorem ports_setPlan (n : Fin 8) (v : Plan) : (s.setPlan n v).ports = s.ports := rfl
@[simp] theorem pending_setPlan (n : Fin 8) (v : Plan) : (s.setPlan n v).pending = s.pending := rfl

/-! ### The changed field -/

@[simp] theorem slot_setSlot (o p : Outlet) (v : Option Session) :
    (s.setSlot o v).slot p = if o = p then v else s.slot p := by
  simp only [State.slot, State.setSlot, Fin.getElem_fin, Vector.getElem_set, Fin.ext_iff]

@[simp] theorem meter_setMeter (o p : Outlet) (v : Meter) :
    (s.setMeter o v).meter p = if o = p then v else s.meter p := by
  simp only [State.meter, State.setMeter, Fin.getElem_fin, Vector.getElem_set, Fin.ext_iff]

@[simp] theorem link_setLink (o p : Outlet) (v : OutletLink) :
    (s.setLink o v).link p = if o = p then v else s.link p := by
  simp only [State.link, State.setLink, Fin.getElem_fin, Vector.getElem_set, Fin.ext_iff]

@[simp] theorem exchange_setExchange (o p : Outlet) (v : Exchange) :
    (s.setExchange o v).exchange p = if o = p then v else s.exchange p := by
  simp only [State.exchange, State.setExchange, Fin.getElem_fin, Vector.getElem_set, Fin.ext_iff]

@[simp] theorem record_setRecord (o p : Outlet) (v : DispatchRecord) :
    (s.setRecord o v).record p = if o = p then v else s.record p := by
  simp only [State.record, State.setRecord, Fin.getElem_fin, Vector.getElem_set, Fin.ext_iff]

@[simp] theorem module_setModule (m n : ModuleNo) (v : Module) :
    (s.setModule m v).module n = if m = n then v else s.module n := by
  simp only [State.module, State.setModule, Fin.getElem_fin, Vector.getElem_set, Fin.ext_iff]

@[simp] theorem module_setModuleState (m n : ModuleNo) (v : ModuleState) :
    (s.setModuleState m v).module n = if m = n then { s.module m with state := v } else s.module n := by
  simp only [State.setModuleState, module_setModule]

@[simp] theorem plan_setPlan (n k : Fin 8) (v : Plan) : (s.setPlan n v).plan k = if n = k then v else s.plan k := by
  simp only [State.plan, State.setPlan, Fin.getElem_fin, Vector.getElem_set, Fin.ext_iff]

@[simp] theorem port_setPort (p q : PortId) (v : Port) : (s.setPort p v).port q = if p = q then v else s.port q := by
  cases p <;> cases q <;> rfl

/-! ### The accessors through the other updates -/

@[simp] theorem meter_setSlot (o : Outlet) (v : Option Session) (p : Outlet) : (s.setSlot o v).meter p = s.meter p := rfl
@[simp] theorem link_setSlot (o : Outlet) (v : Option Session) (p : Outlet) : (s.setSlot o v).link p = s.link p := rfl
@[simp] theorem exchange_setSlot (o : Outlet) (v : Option Session) (p : Outlet) : (s.setSlot o v).exchange p = s.exchange p := rfl
@[simp] theorem record_setSlot (o : Outlet) (v : Option Session) (p : Outlet) : (s.setSlot o v).record p = s.record p := rfl
@[simp] theorem module_setSlot (o : Outlet) (v : Option Session) (n : ModuleNo) : (s.setSlot o v).module n = s.module n := rfl
@[simp] theorem outletItems_setSlot (o : Outlet) (v : Option Session) (p : Outlet) : (s.setSlot o v).outletItems p = s.outletItems p := rfl
@[simp] theorem present_setSlot (o : Outlet) (v : Option Session) (p : Outlet) : (s.setSlot o v).present p = s.present p := rfl
@[simp] theorem slot_setMeter (o : Outlet) (v : Meter) (p : Outlet) : (s.setMeter o v).slot p = s.slot p := rfl
@[simp] theorem link_setMeter (o : Outlet) (v : Meter) (p : Outlet) : (s.setMeter o v).link p = s.link p := rfl
@[simp] theorem exchange_setMeter (o : Outlet) (v : Meter) (p : Outlet) : (s.setMeter o v).exchange p = s.exchange p := rfl
@[simp] theorem record_setMeter (o : Outlet) (v : Meter) (p : Outlet) : (s.setMeter o v).record p = s.record p := rfl
@[simp] theorem module_setMeter (o : Outlet) (v : Meter) (n : ModuleNo) : (s.setMeter o v).module n = s.module n := rfl
@[simp] theorem outletItems_setMeter (o : Outlet) (v : Meter) (p : Outlet) : (s.setMeter o v).outletItems p = s.outletItems p := rfl
@[simp] theorem present_setMeter (o : Outlet) (v : Meter) (p : Outlet) : (s.setMeter o v).present p = s.present p := rfl
@[simp] theorem slot_setLink (o : Outlet) (v : OutletLink) (p : Outlet) : (s.setLink o v).slot p = s.slot p := rfl
@[simp] theorem meter_setLink (o : Outlet) (v : OutletLink) (p : Outlet) : (s.setLink o v).meter p = s.meter p := rfl
@[simp] theorem exchange_setLink (o : Outlet) (v : OutletLink) (p : Outlet) : (s.setLink o v).exchange p = s.exchange p := rfl
@[simp] theorem record_setLink (o : Outlet) (v : OutletLink) (p : Outlet) : (s.setLink o v).record p = s.record p := rfl
@[simp] theorem module_setLink (o : Outlet) (v : OutletLink) (n : ModuleNo) : (s.setLink o v).module n = s.module n := rfl
@[simp] theorem outletItems_setLink (o : Outlet) (v : OutletLink) (p : Outlet) : (s.setLink o v).outletItems p = s.outletItems p := rfl
@[simp] theorem present_setLink (o : Outlet) (v : OutletLink) (p : Outlet) : (s.setLink o v).present p = s.present p := rfl
@[simp] theorem slot_setExchange (o : Outlet) (v : Exchange) (p : Outlet) : (s.setExchange o v).slot p = s.slot p := rfl
@[simp] theorem meter_setExchange (o : Outlet) (v : Exchange) (p : Outlet) : (s.setExchange o v).meter p = s.meter p := rfl
@[simp] theorem link_setExchange (o : Outlet) (v : Exchange) (p : Outlet) : (s.setExchange o v).link p = s.link p := rfl
@[simp] theorem record_setExchange (o : Outlet) (v : Exchange) (p : Outlet) : (s.setExchange o v).record p = s.record p := rfl
@[simp] theorem module_setExchange (o : Outlet) (v : Exchange) (n : ModuleNo) : (s.setExchange o v).module n = s.module n := rfl
@[simp] theorem outletItems_setExchange (o : Outlet) (v : Exchange) (p : Outlet) : (s.setExchange o v).outletItems p = s.outletItems p := rfl
@[simp] theorem present_setExchange (o : Outlet) (v : Exchange) (p : Outlet) : (s.setExchange o v).present p = s.present p := rfl
@[simp] theorem slot_setRecord (o : Outlet) (v : DispatchRecord) (p : Outlet) : (s.setRecord o v).slot p = s.slot p := rfl
@[simp] theorem meter_setRecord (o : Outlet) (v : DispatchRecord) (p : Outlet) : (s.setRecord o v).meter p = s.meter p := rfl
@[simp] theorem link_setRecord (o : Outlet) (v : DispatchRecord) (p : Outlet) : (s.setRecord o v).link p = s.link p := rfl
@[simp] theorem exchange_setRecord (o : Outlet) (v : DispatchRecord) (p : Outlet) : (s.setRecord o v).exchange p = s.exchange p := rfl
@[simp] theorem module_setRecord (o : Outlet) (v : DispatchRecord) (n : ModuleNo) : (s.setRecord o v).module n = s.module n := rfl
@[simp] theorem outletItems_setRecord (o : Outlet) (v : DispatchRecord) (p : Outlet) : (s.setRecord o v).outletItems p = s.outletItems p := rfl
@[simp] theorem present_setRecord (o : Outlet) (v : DispatchRecord) (p : Outlet) : (s.setRecord o v).present p = s.present p := rfl
@[simp] theorem slot_setModule (m : ModuleNo) (v : Module) (p : Outlet) : (s.setModule m v).slot p = s.slot p := rfl
@[simp] theorem meter_setModule (m : ModuleNo) (v : Module) (p : Outlet) : (s.setModule m v).meter p = s.meter p := rfl
@[simp] theorem link_setModule (m : ModuleNo) (v : Module) (p : Outlet) : (s.setModule m v).link p = s.link p := rfl
@[simp] theorem exchange_setModule (m : ModuleNo) (v : Module) (p : Outlet) : (s.setModule m v).exchange p = s.exchange p := rfl
@[simp] theorem record_setModule (m : ModuleNo) (v : Module) (p : Outlet) : (s.setModule m v).record p = s.record p := rfl
@[simp] theorem outletItems_setModule (m : ModuleNo) (v : Module) (p : Outlet) : (s.setModule m v).outletItems p = s.outletItems p := rfl
@[simp] theorem present_setModule (m : ModuleNo) (v : Module) (p : Outlet) : (s.setModule m v).present p = s.present p := rfl
@[simp] theorem slot_setModuleState (m : ModuleNo) (v : ModuleState) (p : Outlet) : (s.setModuleState m v).slot p = s.slot p := rfl
@[simp] theorem meter_setModuleState (m : ModuleNo) (v : ModuleState) (p : Outlet) : (s.setModuleState m v).meter p = s.meter p := rfl
@[simp] theorem link_setModuleState (m : ModuleNo) (v : ModuleState) (p : Outlet) : (s.setModuleState m v).link p = s.link p := rfl
@[simp] theorem exchange_setModuleState (m : ModuleNo) (v : ModuleState) (p : Outlet) : (s.setModuleState m v).exchange p = s.exchange p := rfl
@[simp] theorem record_setModuleState (m : ModuleNo) (v : ModuleState) (p : Outlet) : (s.setModuleState m v).record p = s.record p := rfl
@[simp] theorem outletItems_setModuleState (m : ModuleNo) (v : ModuleState) (p : Outlet) : (s.setModuleState m v).outletItems p = s.outletItems p := rfl
@[simp] theorem present_setModuleState (m : ModuleNo) (v : ModuleState) (p : Outlet) : (s.setModuleState m v).present p = s.present p := rfl
@[simp] theorem slot_setCabinet (v : CabinetLink) (p : Outlet) : (s.setCabinet v).slot p = s.slot p := rfl
@[simp] theorem meter_setCabinet (v : CabinetLink) (p : Outlet) : (s.setCabinet v).meter p = s.meter p := rfl
@[simp] theorem link_setCabinet (v : CabinetLink) (p : Outlet) : (s.setCabinet v).link p = s.link p := rfl
@[simp] theorem exchange_setCabinet (v : CabinetLink) (p : Outlet) : (s.setCabinet v).exchange p = s.exchange p := rfl
@[simp] theorem record_setCabinet (v : CabinetLink) (p : Outlet) : (s.setCabinet v).record p = s.record p := rfl
@[simp] theorem outletItems_setCabinet (v : CabinetLink) (p : Outlet) : (s.setCabinet v).outletItems p = s.outletItems p := rfl
@[simp] theorem present_setCabinet (v : CabinetLink) (p : Outlet) : (s.setCabinet v).present p = s.present p := rfl
@[simp] theorem slot_issue (v : CabinetMsg) (p : Outlet) : (s.issue v).slot p = s.slot p := rfl
@[simp] theorem meter_issue (v : CabinetMsg) (p : Outlet) : (s.issue v).meter p = s.meter p := rfl
@[simp] theorem link_issue (v : CabinetMsg) (p : Outlet) : (s.issue v).link p = s.link p := rfl
@[simp] theorem exchange_issue (v : CabinetMsg) (p : Outlet) : (s.issue v).exchange p = s.exchange p := rfl
@[simp] theorem record_issue (v : CabinetMsg) (p : Outlet) : (s.issue v).record p = s.record p := rfl
@[simp] theorem outletItems_issue (v : CabinetMsg) (p : Outlet) : (s.issue v).outletItems p = s.outletItems p := rfl
@[simp] theorem present_issue (v : CabinetMsg) (p : Outlet) : (s.issue v).present p = s.present p := rfl
@[simp] theorem slot_setPort (p : PortId) (v : Port) (q : Outlet) : (s.setPort p v).slot q = s.slot q := by cases p <;> rfl
@[simp] theorem meter_setPort (p : PortId) (v : Port) (q : Outlet) : (s.setPort p v).meter q = s.meter q := by cases p <;> rfl
@[simp] theorem link_setPort (p : PortId) (v : Port) (q : Outlet) : (s.setPort p v).link q = s.link q := by cases p <;> rfl
@[simp] theorem exchange_setPort (p : PortId) (v : Port) (q : Outlet) : (s.setPort p v).exchange q = s.exchange q := by cases p <;> rfl
@[simp] theorem record_setPort (p : PortId) (v : Port) (q : Outlet) : (s.setPort p v).record q = s.record q := by cases p <;> rfl
@[simp] theorem module_setPort (p : PortId) (v : Port) (n : ModuleNo) : (s.setPort p v).module n = s.module n := by cases p <;> rfl
@[simp] theorem outletItems_setPort (p : PortId) (v : Port) (q : Outlet) : (s.setPort p v).outletItems q = s.outletItems q := by cases p <;> rfl
@[simp] theorem present_setPort (p : PortId) (v : Port) (q : Outlet) : (s.setPort p v).present q = s.present q := by cases p <;> rfl
@[simp] theorem slot_respond (p : PortId) (c : Byte) (t : Status) (l : List Byte) (q : Outlet) : (s.respond p c t l).slot q = s.slot q := by cases p <;> rfl
@[simp] theorem meter_respond (p : PortId) (c : Byte) (t : Status) (l : List Byte) (q : Outlet) : (s.respond p c t l).meter q = s.meter q := by cases p <;> rfl
@[simp] theorem link_respond (p : PortId) (c : Byte) (t : Status) (l : List Byte) (q : Outlet) : (s.respond p c t l).link q = s.link q := by cases p <;> rfl
@[simp] theorem exchange_respond (p : PortId) (c : Byte) (t : Status) (l : List Byte) (q : Outlet) : (s.respond p c t l).exchange q = s.exchange q := by cases p <;> rfl
@[simp] theorem record_respond (p : PortId) (c : Byte) (t : Status) (l : List Byte) (q : Outlet) : (s.respond p c t l).record q = s.record q := by cases p <;> rfl
@[simp] theorem module_respond (p : PortId) (c : Byte) (t : Status) (l : List Byte) (n : ModuleNo) : (s.respond p c t l).module n = s.module n := by cases p <;> rfl
@[simp] theorem outletItems_respond (p : PortId) (c : Byte) (t : Status) (l : List Byte) (q : Outlet) : (s.respond p c t l).outletItems q = s.outletItems q := by cases p <;> rfl
@[simp] theorem present_respond (p : PortId) (c : Byte) (t : Status) (l : List Byte) (q : Outlet) : (s.respond p c t l).present q = s.present q := by cases p <;> rfl
@[simp] theorem slot_overrun (p : PortId) (q : Outlet) : (s.overrun p).slot q = s.slot q := by cases p <;> rfl
@[simp] theorem meter_overrun (p : PortId) (q : Outlet) : (s.overrun p).meter q = s.meter q := by cases p <;> rfl
@[simp] theorem link_overrun (p : PortId) (q : Outlet) : (s.overrun p).link q = s.link q := by cases p <;> rfl
@[simp] theorem exchange_overrun (p : PortId) (q : Outlet) : (s.overrun p).exchange q = s.exchange q := by cases p <;> rfl
@[simp] theorem record_overrun (p : PortId) (q : Outlet) : (s.overrun p).record q = s.record q := by cases p <;> rfl
@[simp] theorem module_overrun (p : PortId) (n : ModuleNo) : (s.overrun p).module n = s.module n := by cases p <;> rfl
@[simp] theorem outletItems_overrun (p : PortId) (q : Outlet) : (s.overrun p).outletItems q = s.outletItems q := by cases p <;> rfl
@[simp] theorem present_overrun (p : PortId) (q : Outlet) : (s.overrun p).present q = s.present q := by cases p <;> rfl
@[simp] theorem slot_raiseOutlet (k : OutletNotice) (o : Outlet) (p : Outlet) : (s.raiseOutlet k o).slot p = s.slot p := rfl
@[simp] theorem meter_raiseOutlet (k : OutletNotice) (o : Outlet) (p : Outlet) : (s.raiseOutlet k o).meter p = s.meter p := rfl
@[simp] theorem link_raiseOutlet (k : OutletNotice) (o : Outlet) (p : Outlet) : (s.raiseOutlet k o).link p = s.link p := rfl
@[simp] theorem exchange_raiseOutlet (k : OutletNotice) (o : Outlet) (p : Outlet) : (s.raiseOutlet k o).exchange p = s.exchange p := rfl
@[simp] theorem record_raiseOutlet (k : OutletNotice) (o : Outlet) (p : Outlet) : (s.raiseOutlet k o).record p = s.record p := rfl
@[simp] theorem module_raiseOutlet (k : OutletNotice) (o : Outlet) (n : ModuleNo) : (s.raiseOutlet k o).module n = s.module n := rfl
@[simp] theorem outletItems_raiseOutlet (k : OutletNotice) (o : Outlet) (p : Outlet) : (s.raiseOutlet k o).outletItems p = s.outletItems p := rfl
@[simp] theorem present_raiseOutlet (k : OutletNotice) (o : Outlet) (p : Outlet) : (s.raiseOutlet k o).present p = s.present p := rfl
@[simp] theorem slot_raise (k : PlainNotice) (p : Outlet) : (s.raise k).slot p = s.slot p := rfl
@[simp] theorem meter_raise (k : PlainNotice) (p : Outlet) : (s.raise k).meter p = s.meter p := rfl
@[simp] theorem link_raise (k : PlainNotice) (p : Outlet) : (s.raise k).link p = s.link p := rfl
@[simp] theorem exchange_raise (k : PlainNotice) (p : Outlet) : (s.raise k).exchange p = s.exchange p := rfl
@[simp] theorem record_raise (k : PlainNotice) (p : Outlet) : (s.raise k).record p = s.record p := rfl
@[simp] theorem module_raise (k : PlainNotice) (n : ModuleNo) : (s.raise k).module n = s.module n := rfl
@[simp] theorem outletItems_raise (k : PlainNotice) (p : Outlet) : (s.raise k).outletItems p = s.outletItems p := rfl
@[simp] theorem present_raise (k : PlainNotice) (p : Outlet) : (s.raise k).present p = s.present p := rfl
@[simp] theorem slot_raiseModuleFault (m : ModuleNo) (p : Outlet) : (s.raiseModuleFault m).slot p = s.slot p := rfl
@[simp] theorem meter_raiseModuleFault (m : ModuleNo) (p : Outlet) : (s.raiseModuleFault m).meter p = s.meter p := rfl
@[simp] theorem link_raiseModuleFault (m : ModuleNo) (p : Outlet) : (s.raiseModuleFault m).link p = s.link p := rfl
@[simp] theorem exchange_raiseModuleFault (m : ModuleNo) (p : Outlet) : (s.raiseModuleFault m).exchange p = s.exchange p := rfl
@[simp] theorem record_raiseModuleFault (m : ModuleNo) (p : Outlet) : (s.raiseModuleFault m).record p = s.record p := rfl
@[simp] theorem module_raiseModuleFault (m : ModuleNo) (n : ModuleNo) : (s.raiseModuleFault m).module n = s.module n := rfl
@[simp] theorem outletItems_raiseModuleFault (m : ModuleNo) (p : Outlet) : (s.raiseModuleFault m).outletItems p = s.outletItems p := rfl
@[simp] theorem present_raiseModuleFault (m : ModuleNo) (p : Outlet) : (s.raiseModuleFault m).present p = s.present p := rfl
@[simp] theorem slot_setRx (r : LineRx) (p : Outlet) : (s.setRx r).slot p = s.slot p := rfl
@[simp] theorem meter_setRx (r : LineRx) (p : Outlet) : (s.setRx r).meter p = s.meter p := rfl
@[simp] theorem exchange_setRx (r : LineRx) (p : Outlet) : (s.setRx r).exchange p = s.exchange p := rfl
@[simp] theorem record_setRx (r : LineRx) (p : Outlet) : (s.setRx r).record p = s.record p := rfl
@[simp] theorem module_setRx (r : LineRx) (n : ModuleNo) : (s.setRx r).module n = s.module n := rfl
@[simp] theorem outletItems_setRx (r : LineRx) (p : Outlet) : (s.setRx r).outletItems p = s.outletItems p := rfl
@[simp] theorem present_setRx (r : LineRx) (p : Outlet) : (s.setRx r).present p = s.present p := rfl
@[simp] theorem slot_setPlan (n : Fin 8) (v : Plan) (p : Outlet) : (s.setPlan n v).slot p = s.slot p := rfl
@[simp] theorem meter_setPlan (n : Fin 8) (v : Plan) (p : Outlet) : (s.setPlan n v).meter p = s.meter p := rfl
@[simp] theorem link_setPlan (n : Fin 8) (v : Plan) (p : Outlet) : (s.setPlan n v).link p = s.link p := rfl
@[simp] theorem exchange_setPlan (n : Fin 8) (v : Plan) (p : Outlet) : (s.setPlan n v).exchange p = s.exchange p := rfl
@[simp] theorem record_setPlan (n : Fin 8) (v : Plan) (p : Outlet) : (s.setPlan n v).record p = s.record p := rfl
@[simp] theorem module_setPlan (k : Fin 8) (v : Plan) (n : ModuleNo) : (s.setPlan k v).module n = s.module n := rfl
@[simp] theorem outletItems_setPlan (n : Fin 8) (v : Plan) (p : Outlet) : (s.setPlan n v).outletItems p = s.outletItems p := rfl
@[simp] theorem present_setPlan (n : Fin 8) (v : Plan) (p : Outlet) : (s.setPlan n v).present p = s.present p := rfl

@[simp] theorem module_setCabinet (v : CabinetLink) (n : ModuleNo) : (s.setCabinet v).module n = s.module n := rfl
@[simp] theorem module_issue (v : CabinetMsg) (n : ModuleNo) : (s.issue v).module n = s.module n := rfl
@[simp] theorem link_setRx (r : LineRx) (p : Outlet) : (s.setRx r).link p = s.link p := rfl

/-! ### The parts of a changed field that stay -/

@[simp] theorem nextNumber_setSlot (o : Outlet) (v : Option Session) :
    (s.setSlot o v).sessions.nextNumber = s.sessions.nextNumber := rfl
@[simp] theorem nextStamp_setSlot (o : Outlet) (v : Option Session) :
    (s.setSlot o v).sessions.nextStamp = s.sessions.nextStamp := rfl
@[simp] theorem cabinet_setModule (m : ModuleNo) (v : Module) : (s.setModule m v).pool.cabinet = s.pool.cabinet := rfl
@[simp] theorem shortfalls_setModule (m : ModuleNo) (v : Module) :
    (s.setModule m v).pool.shortfalls = s.pool.shortfalls := rfl
@[simp] theorem cabinet_setModuleState (m : ModuleNo) (v : ModuleState) :
    (s.setModuleState m v).pool.cabinet = s.pool.cabinet := rfl
@[simp] theorem shortfalls_setModuleState (m : ModuleNo) (v : ModuleState) :
    (s.setModuleState m v).pool.shortfalls = s.pool.shortfalls := rfl
@[simp] theorem cabinet_setCabinet (v : CabinetLink) : (s.setCabinet v).pool.cabinet = v := rfl
@[simp] theorem modules_setCabinet (v : CabinetLink) : (s.setCabinet v).pool.modules = s.pool.modules := rfl
@[simp] theorem shortfalls_setCabinet (v : CabinetLink) : (s.setCabinet v).pool.shortfalls = s.pool.shortfalls := rfl
@[simp] theorem modules_issue (v : CabinetMsg) : (s.issue v).pool.modules = s.pool.modules := rfl
@[simp] theorem shortfalls_issue (v : CabinetMsg) : (s.issue v).pool.shortfalls = s.pool.shortfalls := rfl
@[simp] theorem capTarget_setRecord (o : Outlet) (v : DispatchRecord) :
    (s.setRecord o v).dispatcher.capTarget = s.dispatcher.capTarget := rfl
@[simp] theorem effectiveCap_setRecord (o : Outlet) (v : DispatchRecord) :
    (s.setRecord o v).dispatcher.effectiveCap = s.dispatcher.effectiveCap := rfl
@[simp] theorem available_setRecord (o : Outlet) (v : DispatchRecord) :
    (s.setRecord o v).dispatcher.available = s.dispatcher.available := rfl
@[simp] theorem cycleNumber_setLink (o : Outlet) (v : OutletLink) :
    (s.setLink o v).line.cycleNumber = s.line.cycleNumber := rfl
@[simp] theorem cycleNumber_setRx (r : LineRx) : (s.setRx r).line.cycleNumber = s.line.cycleNumber := rfl

end Sys2Proof.Machine
end

