-- ==== Sys2Proof/Laws/Effect.lean ====
section
/-! SUPPORT. What a command does, as one function of the state: requests through their port and owner, events directly; and the lemmas
that say so of `exec`. -/

namespace Sys2Proof.Laws

open Sys2Proof.Machine

/-- The port, the code and the owner of a request command. -/
def requestParts : Instr → Option (PortId × Byte × (State → Answer))
  | .readStatus port => some (port, 0x01, fun s => s.answer .ok s.statusPayload)
  | .swapNotices port => some (port, 0x02, fun s => s.answerSwap port)
  | .arm outlet hold plan cls ref => some (.settlement, 0x10, fun s => s.answerArm outlet hold.toNat plan cls ref)
  | .topup number amount => some (.settlement, 0x11, fun s => s.answerTopup number.toNat amount.toNat)
  | .stop number => some (.settlement, 0x12, fun s => s.answerStop number.toNat)
  | .querySession outlet => some (.settlement, 0x13, fun s => s.answerQuery outlet)
  | .peekClosure => some (.settlement, 0x14, State.answerPeek)
  | .releaseClosure number => some (.settlement, 0x15, fun s => s.answerRelease number.toNat)
  | .writePlan plan sessionFee idleFee grace bandCount bands => some (.settlement, 0x16, fun s => s.answerWritePlan plan sessionFee.toNat idleFee.toNat grace.toNat bandCount.toNat bands)
  | .readPlan plan => some (.settlement, 0x17, fun s => s.answerReadPlan plan)
  | .invalidatePlan plan => some (.settlement, 0x18, fun s => s.answerInvalidatePlan plan)
  | .setCap cap validity => some (.site, 0x30, fun s => s.answerSetCap cap.toNat validity.toNat)
  | .timeRef ref => some (.site, 0x31, fun s => s.answerTimeRef ref.toNat)
  | .configWrite item index value => some (.site, 0x32, fun s => s.answerConfigWrite item index value)
  | .configRead item index => some (.site, 0x33, fun s => s.answerConfigRead item index)
  | .startPark => some (.site, 0x34, State.answerStartPark)
  | .stopPark => some (.site, 0x35, State.answerStopPark)
  | .moduleServiceOut module direction => some (.site, 0x36, fun s => s.answerService module direction)
  | .moduleServiceIn module => some (.site, 0x36, fun s => s.answerService module 1)
  | .moduleClear module => some (.site, 0x37, fun s => s.answerClear module)
  | .readSite => some (.site, 0x38, fun s => s.answer .ok s.sitePayload)
  | .readOutlet outlet => some (.site, 0x39, fun s => s.answerReadOutlet outlet)
  | .readCounters clear part => some (.site, 0x3A, fun s => s.answerCounters clear.toNat part.toNat)
  | .readCountersClear part => some (.site, 0x3A, fun s => s.answerCounters 1 part.toNat)
  | .badFrame _ _ | .unknownRequest _ _ | .responseOverrun _ | .requestGapTimeout _ _ | .responseSent _ | .confirm _ _ | .faultOn _ | .faultOff _ | .cabinetFrameError _ | .unusableMessage _ | .cabinetGapTimeout _ | .cabinetMessageSent | .reportFrame _ _ _ | .gapTimeOut _ _ | .rejectedCharacter _ | .unaddressedFrame _ _ | .unaddressedCharacter | .openingBegin | .openingEnd | .replyWindowClose | .cycleExpiry _ | .pulseTaken _ | .runt _ | .armDeadline _ | .suspendDeadline _ | .settleDeadline _ | .idleMinuteAccrual _ | .trimAdjustment | .holdoverDeadline | .targetExpiry | .switchTimeout _ | .warmUpDeadline _ | .drainDeadline _ | .openingTimeout _ | .pulseLeadingEdge _ | .pulseInputHigh _ | .elapsedMillisecond | .reportDiscard _ _ _ | .lineSeenHigh | .reset | .resetRelease => none

/-- The effect of an event command. -/
def eventEffect : Instr → State → State
  | .badFrame p f => fun s => s.completeFrame p f badFrameReply
  | .unknownRequest p f => fun s => s.completeFrame p f unknownRequestReply
  | .responseOverrun p => fun s => if s.portFull p then s.overrun p else s
  | .requestGapTimeout p received => fun s => s.gapTimeout p received
  | .responseSent p => fun s => s.responseSent p
  | .confirm m route => fun s => s.cabinetMessageDone.confirm m route
  | .faultOn m => fun s => s.cabinetMessageDone.faultOn m
  | .faultOff m => fun s => s.cabinetMessageDone.setIndication m .faultOff
  | .cabinetFrameError frame => fun s => if frame.complete && judgeCabinet frame == .frameError then s.cabinetFrameError else s
  | .unusableMessage frame => fun s => if frame.complete && judgeCabinet frame == .unusable then s.unusableMessage else s
  | .cabinetGapTimeout received => fun s => if s.pool.cabinet.rx.gapRunsAfter received then s.cabinetFrameError else s
  | .cabinetMessageSent => fun s => if s.pool.cabinet.sending.isSome then s.cabinetSent else s
  | .reportFrame o body ended => fun s => s.reportFrame o body.toList ended
  | .gapTimeOut o chars => fun s => s.gapTimeOut o chars
  | .rejectedCharacter framing => fun s => s.rejectCharacter framing
  | .unaddressedFrame addr ended => fun s => s.unaddressedFrame addr ended
  | .unaddressedCharacter => State.unaddressedCharacter
  | .openingBegin => State.openingBegin
  | .openingEnd => State.openingEnd
  | .replyWindowClose => State.replyWindowClose
  | .cycleExpiry wireQuiet => fun s => s.cycleExpiry wireQuiet
  | .pulseTaken o => fun s => s.takePulse o
  | .runt o => fun s => s.endRunt o
  | .armDeadline o => fun s => s.armDeadline o
  | .suspendDeadline o => fun s => s.suspendDeadline o
  | .settleDeadline o => fun s => s.settleDeadline o
  | .idleMinuteAccrual o => fun s => s.idleAccrual o
  | .trimAdjustment => fun s => if s.clock.adjustDue then s.millisecond else s
  | .holdoverDeadline => fun s => if s.clock.holdoverDue then s.enterHoldover else s
  | .targetExpiry => State.targetExpiry
  | .switchTimeout m => fun s => s.switchTimeout m
  | .warmUpDeadline m => fun s => s.warmUpDeadline m
  | .drainDeadline m => fun s => s.drainDeadline m
  | .openingTimeout m => fun s => s.openingTimeout m
  | .pulseLeadingEdge o => fun s => s.leadingEdge o
  | .pulseInputHigh o => fun s => s.inputHigh o
  | .elapsedMillisecond => State.millisecond
  | .reportDiscard o chars ended => fun s => s.reportDiscard o chars ended
  | .lineSeenHigh => State.lineSeenHigh
  | .readStatus _ | .swapNotices _ | .arm _ _ _ _ _ | .topup _ _ | .stop _ | .querySession _ | .peekClosure | .releaseClosure _ | .writePlan _ _ _ _ _ _ | .readPlan _ | .invalidatePlan _ | .setCap _ _ | .timeRef _ | .configWrite _ _ _ | .configRead _ _ | .startPark | .stopPark | .moduleServiceOut _ _ | .moduleServiceIn _ | .moduleClear _ | .readSite | .readOutlet _ | .readCounters _ _ | .readCountersClear _ | .reset | .resetRelease => id

/-- R166, R167: a request served on a port. -/
def serve (s : State) (p : PortId) (code : Byte) (owner : State → Answer) : State :=
  if s.portFull p then s.overrun p else (owner s).state.respond p code (owner s).status (owner s).payload

/-- What a command does to a part that is not held in reset. -/
def effect (c : Instr) (s : State) : State :=
  match requestParts c with
  | some (p, code, owner) => serve s p code owner
  | none => eventEffect c s

/-- Every command but RESET and RESET_RELEASE answers next: its effect, or nothing while the part is held in reset. -/
theorem exec_effect (c : Instr) (s : State) (h1 : c ≠ .reset) (h2 : c ≠ .resetRelease) :
    exec c s = .next (if s.held then s else effect c s) := by
  cases c <;> first | rfl | exact absurd rfl h1 | exact absurd rfl h2

theorem exec_reset (s : State) :
    exec .reset s = .next { State.reset with
      held := true
      clock := { Clock.reset with freeDraws := s.clock.freeDraws }
      pending := s.pending } := rfl

theorem exec_resetRelease (s : State) :
    exec .resetRelease s = .next (if s.held then { s with held := false, clock := { s.clock with elapsed := 0, parkTime := 0 } } else s) :=
  rfl

theorem exec_request {c : Instr} {p : PortId} {code : Byte} {owner : State → Answer} (s : State)
    (h : requestParts c = some (p, code, owner)) (held : s.held = false) (room : s.portFull p = false) :
    exec c s = .next ((owner s).state.respond p code (owner s).status (owner s).payload) := by
  have h1 : c ≠ .reset := by rintro rfl; cases h
  have h2 : c ≠ .resetRelease := by rintro rfl; cases h
  rw [exec_effect c s h1 h2]
  simp [held, effect, h, serve, room]

theorem exec_event {c : Instr} (s : State) (h : requestParts c = none) (h1 : c ≠ .reset) (h2 : c ≠ .resetRelease)
    (held : s.held = false) : exec c s = .next (eventEffect c s) := by
  rw [exec_effect c s h1 h2]
  simp [held, effect, h]

theorem step_cons {c : Instr} {rest : List Instr} {s : State} (h : s.pending = c :: rest) :
    step s = exec c { s with pending := rest } := by
  unfold step; rw [h]

theorem step_nil {s : State} (h : s.pending = []) : step s = .next s := by
  unfold step; rw [h]

/-- An invariant that reset has, that every effect keeps and that does not look at the queue, at `held`, at the count of free
values drawn or at the time a reset sets, is kept by every step. -/
theorem step_keeps (I : State → Prop) (queue : ∀ s q, I s → I { s with pending := q })
    (fresh : I State.reset) (heldI : ∀ s b, I s → I { s with held := b })
    (draws : ∀ s n, I s → I { s with clock := { s.clock with freeDraws := n } })
    (zero : ∀ s, I s → I { s with clock := { s.clock with elapsed := 0, parkTime := 0 } })
    (eff : ∀ c s, I s → I (effect c s)) (s t : State) (hs : I s) (h : step s = .next t) : I t := by
  cases hp : s.pending with
  | nil => rw [step_nil hp] at h; cases h; exact hs
  | cons c rest =>
    rw [step_cons hp] at h
    have hq := queue s rest hs
    by_cases h1 : c = .reset
    · subst h1
      rw [exec_reset] at h; cases h
      exact queue _ rest (heldI _ true (draws _ s.clock.freeDraws fresh))
    · by_cases h2 : c = .resetRelease
      · subst h2
        rw [exec_resetRelease] at h; cases h
        split
        · exact heldI _ false (zero _ hq)
        · exact hq
      · rw [exec_effect c _ h1 h2] at h; cases h
        split
        · exact hq
        · exact eff c _ hq

end Sys2Proof.Laws
end

