-- ==== Sys2Proof/Laws/Frames.lean ====
section
/-! SUPPORT. What each shared operation leaves: one lemma per field of State that it does not reach. -/

namespace Sys2Proof.Machine

variable (s : State)

theorem foldl_field {α β : Type} (g : State → β) (f : State → α → State) (h : ∀ s a, g (f s a) = g s) (l : List α) (s : State) :
    g (l.foldl f s) = g s := by
  induction l generalizing s with
  | nil => rfl
  | cons a rest ih => rw [List.foldl_cons, ih, h]

/-! ### setSettleDeadline -/

@[simp] theorem held_setSettleDeadline (o : Outlet) : (s.setSettleDeadline o).held = s.held := by
  unfold State.setSettleDeadline; repeat' split
  all_goals simp
@[simp] theorem control_setSettleDeadline (o : Outlet) : (s.setSettleDeadline o).control = s.control := by
  unfold State.setSettleDeadline; repeat' split
  all_goals simp
@[simp] theorem clock_setSettleDeadline (o : Outlet) : (s.setSettleDeadline o).clock = s.clock := by
  unfold State.setSettleDeadline; repeat' split
  all_goals simp
@[simp] theorem plans_setSettleDeadline (o : Outlet) : (s.setSettleDeadline o).plans = s.plans := by
  unfold State.setSettleDeadline; repeat' split
  all_goals simp
@[simp] theorem meters_setSettleDeadline (o : Outlet) : (s.setSettleDeadline o).meters = s.meters := by
  unfold State.setSettleDeadline; repeat' split
  all_goals simp
@[simp] theorem line_setSettleDeadline (o : Outlet) : (s.setSettleDeadline o).line = s.line := by
  unfold State.setSettleDeadline; repeat' split
  all_goals simp
@[simp] theorem exchanges_setSettleDeadline (o : Outlet) : (s.setSettleDeadline o).exchanges = s.exchanges := by
  unfold State.setSettleDeadline; repeat' split
  all_goals simp
@[simp] theorem dispatcher_setSettleDeadline (o : Outlet) : (s.setSettleDeadline o).dispatcher = s.dispatcher := by
  unfold State.setSettleDeadline; repeat' split
  all_goals simp
@[simp] theorem pool_setSettleDeadline (o : Outlet) : (s.setSettleDeadline o).pool = s.pool := by
  unfold State.setSettleDeadline; repeat' split
  all_goals simp
@[simp] theorem closures_setSettleDeadline (o : Outlet) : (s.setSettleDeadline o).closures = s.closures := by
  unfold State.setSettleDeadline; repeat' split
  all_goals simp
@[simp] theorem notices_setSettleDeadline (o : Outlet) : (s.setSettleDeadline o).notices = s.notices := by
  unfold State.setSettleDeadline; repeat' split
  all_goals simp
@[simp] theorem ports_setSettleDeadline (o : Outlet) : (s.setSettleDeadline o).ports = s.ports := by
  unfold State.setSettleDeadline; repeat' split
  all_goals simp
@[simp] theorem pending_setSettleDeadline (o : Outlet) : (s.setSettleDeadline o).pending = s.pending := by
  unfold State.setSettleDeadline; repeat' split
  all_goals simp

/-! ### reportIfEmpty -/

@[simp] theorem held_reportIfEmpty (o : Outlet) : (s.reportIfEmpty o).held = s.held := by
  unfold State.reportIfEmpty; repeat' split
  all_goals simp
@[simp] theorem control_reportIfEmpty (o : Outlet) : (s.reportIfEmpty o).control = s.control := by
  unfold State.reportIfEmpty; repeat' split
  all_goals simp
@[simp] theorem clock_reportIfEmpty (o : Outlet) : (s.reportIfEmpty o).clock = s.clock := by
  unfold State.reportIfEmpty; repeat' split
  all_goals simp
@[simp] theorem plans_reportIfEmpty (o : Outlet) : (s.reportIfEmpty o).plans = s.plans := by
  unfold State.reportIfEmpty; repeat' split
  all_goals simp
@[simp] theorem meters_reportIfEmpty (o : Outlet) : (s.reportIfEmpty o).meters = s.meters := by
  unfold State.reportIfEmpty; repeat' split
  all_goals simp
@[simp] theorem line_reportIfEmpty (o : Outlet) : (s.reportIfEmpty o).line = s.line := by
  unfold State.reportIfEmpty; repeat' split
  all_goals simp
@[simp] theorem exchanges_reportIfEmpty (o : Outlet) : (s.reportIfEmpty o).exchanges = s.exchanges := by
  unfold State.reportIfEmpty; repeat' split
  all_goals simp
@[simp] theorem dispatcher_reportIfEmpty (o : Outlet) : (s.reportIfEmpty o).dispatcher = s.dispatcher := by
  unfold State.reportIfEmpty; repeat' split
  all_goals simp
@[simp] theorem pool_reportIfEmpty (o : Outlet) : (s.reportIfEmpty o).pool = s.pool := by
  unfold State.reportIfEmpty; repeat' split
  all_goals simp
@[simp] theorem closures_reportIfEmpty (o : Outlet) : (s.reportIfEmpty o).closures = s.closures := by
  unfold State.reportIfEmpty; repeat' split
  all_goals simp
@[simp] theorem notices_reportIfEmpty (o : Outlet) : (s.reportIfEmpty o).notices = s.notices := by
  unfold State.reportIfEmpty; repeat' split
  all_goals simp
@[simp] theorem ports_reportIfEmpty (o : Outlet) : (s.reportIfEmpty o).ports = s.ports := by
  unfold State.reportIfEmpty; repeat' split
  all_goals simp
@[simp] theorem pending_reportIfEmpty (o : Outlet) : (s.reportIfEmpty o).pending = s.pending := by
  unfold State.reportIfEmpty; repeat' split
  all_goals simp

/-! ### unassign -/

@[simp] theorem held_unassign (m : ModuleNo) (v : ModuleState) : (s.unassign m v).held = s.held := by
  unfold State.unassign; repeat' split
  all_goals simp
@[simp] theorem control_unassign (m : ModuleNo) (v : ModuleState) : (s.unassign m v).control = s.control := by
  unfold State.unassign; repeat' split
  all_goals simp
@[simp] theorem clock_unassign (m : ModuleNo) (v : ModuleState) : (s.unassign m v).clock = s.clock := by
  unfold State.unassign; repeat' split
  all_goals simp
@[simp] theorem plans_unassign (m : ModuleNo) (v : ModuleState) : (s.unassign m v).plans = s.plans := by
  unfold State.unassign; repeat' split
  all_goals simp
@[simp] theorem meters_unassign (m : ModuleNo) (v : ModuleState) : (s.unassign m v).meters = s.meters := by
  unfold State.unassign; repeat' split
  all_goals simp
@[simp] theorem line_unassign (m : ModuleNo) (v : ModuleState) : (s.unassign m v).line = s.line := by
  unfold State.unassign; repeat' split
  all_goals simp
@[simp] theorem exchanges_unassign (m : ModuleNo) (v : ModuleState) : (s.unassign m v).exchanges = s.exchanges := by
  unfold State.unassign; repeat' split
  all_goals simp
@[simp] theorem dispatcher_unassign (m : ModuleNo) (v : ModuleState) : (s.unassign m v).dispatcher = s.dispatcher := by
  unfold State.unassign; repeat' split
  all_goals simp
@[simp] theorem closures_unassign (m : ModuleNo) (v : ModuleState) : (s.unassign m v).closures = s.closures := by
  unfold State.unassign; repeat' split
  all_goals simp
@[simp] theorem notices_unassign (m : ModuleNo) (v : ModuleState) : (s.unassign m v).notices = s.notices := by
  unfold State.unassign; repeat' split
  all_goals simp
@[simp] theorem ports_unassign (m : ModuleNo) (v : ModuleState) : (s.unassign m v).ports = s.ports := by
  unfold State.unassign; repeat' split
  all_goals simp
@[simp] theorem pending_unassign (m : ModuleNo) (v : ModuleState) : (s.unassign m v).pending = s.pending := by
  unfold State.unassign; repeat' split
  all_goals simp

/-! ### faultModule -/

@[simp] theorem held_faultModule (m : ModuleNo) (r : FaultReason) : (s.faultModule m r).held = s.held := by
  unfold State.faultModule; repeat' split
  all_goals simp
@[simp] theorem control_faultModule (m : ModuleNo) (r : FaultReason) : (s.faultModule m r).control = s.control := by
  unfold State.faultModule; repeat' split
  all_goals simp
@[simp] theorem clock_faultModule (m : ModuleNo) (r : FaultReason) : (s.faultModule m r).clock = s.clock := by
  unfold State.faultModule; repeat' split
  all_goals simp
@[simp] theorem plans_faultModule (m : ModuleNo) (r : FaultReason) : (s.faultModule m r).plans = s.plans := by
  unfold State.faultModule; repeat' split
  all_goals simp
@[simp] theorem meters_faultModule (m : ModuleNo) (r : FaultReason) : (s.faultModule m r).meters = s.meters := by
  unfold State.faultModule; repeat' split
  all_goals simp
@[simp] theorem line_faultModule (m : ModuleNo) (r : FaultReason) : (s.faultModule m r).line = s.line := by
  unfold State.faultModule; repeat' split
  all_goals simp
@[simp] theorem exchanges_faultModule (m : ModuleNo) (r : FaultReason) : (s.faultModule m r).exchanges = s.exchanges := by
  unfold State.faultModule; repeat' split
  all_goals simp
@[simp] theorem dispatcher_faultModule (m : ModuleNo) (r : FaultReason) : (s.faultModule m r).dispatcher = s.dispatcher := by
  unfold State.faultModule; repeat' split
  all_goals simp
@[simp] theorem closures_faultModule (m : ModuleNo) (r : FaultReason) : (s.faultModule m r).closures = s.closures := by
  unfold State.faultModule; repeat' split
  all_goals simp
@[simp] theorem ports_faultModule (m : ModuleNo) (r : FaultReason) : (s.faultModule m r).ports = s.ports := by
  unfold State.faultModule; repeat' split
  all_goals simp
@[simp] theorem pending_faultModule (m : ModuleNo) (r : FaultReason) : (s.faultModule m r).pending = s.pending := by
  unfold State.faultModule; repeat' split
  all_goals simp

/-! ### openModule -/

@[simp] theorem held_openModule (m : ModuleNo) (o : Outlet) : (s.openModule m o).held = s.held := by simp [State.openModule]
@[simp] theorem control_openModule (m : ModuleNo) (o : Outlet) : (s.openModule m o).control = s.control := by simp [State.openModule]
@[simp] theorem clock_openModule (m : ModuleNo) (o : Outlet) : (s.openModule m o).clock = s.clock := by simp [State.openModule]
@[simp] theorem plans_openModule (m : ModuleNo) (o : Outlet) : (s.openModule m o).plans = s.plans := by simp [State.openModule]
@[simp] theorem sessions_openModule (m : ModuleNo) (o : Outlet) : (s.openModule m o).sessions = s.sessions := by simp [State.openModule]
@[simp] theorem meters_openModule (m : ModuleNo) (o : Outlet) : (s.openModule m o).meters = s.meters := by simp [State.openModule]
@[simp] theorem line_openModule (m : ModuleNo) (o : Outlet) : (s.openModule m o).line = s.line := by simp [State.openModule]
@[simp] theorem exchanges_openModule (m : ModuleNo) (o : Outlet) : (s.openModule m o).exchanges = s.exchanges := by simp [State.openModule]
@[simp] theorem dispatcher_openModule (m : ModuleNo) (o : Outlet) : (s.openModule m o).dispatcher = s.dispatcher := by simp [State.openModule]
@[simp] theorem closures_openModule (m : ModuleNo) (o : Outlet) : (s.openModule m o).closures = s.closures := by simp [State.openModule]
@[simp] theorem notices_openModule (m : ModuleNo) (o : Outlet) : (s.openModule m o).notices = s.notices := by simp [State.openModule]
@[simp] theorem ports_openModule (m : ModuleNo) (o : Outlet) : (s.openModule m o).ports = s.ports := by simp [State.openModule]
@[simp] theorem pending_openModule (m : ModuleNo) (o : Outlet) : (s.openModule m o).pending = s.pending := by simp [State.openModule]

/-! ### drainModule -/

@[simp] theorem held_drainModule (m : ModuleNo) (o : Outlet) : (s.drainModule m o).held = s.held := by simp [State.drainModule]
@[simp] theorem control_drainModule (m : ModuleNo) (o : Outlet) : (s.drainModule m o).control = s.control := by simp [State.drainModule]
@[simp] theorem clock_drainModule (m : ModuleNo) (o : Outlet) : (s.drainModule m o).clock = s.clock := by simp [State.drainModule]
@[simp] theorem plans_drainModule (m : ModuleNo) (o : Outlet) : (s.drainModule m o).plans = s.plans := by simp [State.drainModule]
@[simp] theorem sessions_drainModule (m : ModuleNo) (o : Outlet) : (s.drainModule m o).sessions = s.sessions := by simp [State.drainModule]
@[simp] theorem meters_drainModule (m : ModuleNo) (o : Outlet) : (s.drainModule m o).meters = s.meters := by simp [State.drainModule]
@[simp] theorem line_drainModule (m : ModuleNo) (o : Outlet) : (s.drainModule m o).line = s.line := by simp [State.drainModule]
@[simp] theorem exchanges_drainModule (m : ModuleNo) (o : Outlet) : (s.drainModule m o).exchanges = s.exchanges := by simp [State.drainModule]
@[simp] theorem dispatcher_drainModule (m : ModuleNo) (o : Outlet) : (s.drainModule m o).dispatcher = s.dispatcher := by simp [State.drainModule]
@[simp] theorem closures_drainModule (m : ModuleNo) (o : Outlet) : (s.drainModule m o).closures = s.closures := by simp [State.drainModule]
@[simp] theorem notices_drainModule (m : ModuleNo) (o : Outlet) : (s.drainModule m o).notices = s.notices := by simp [State.drainModule]
@[simp] theorem ports_drainModule (m : ModuleNo) (o : Outlet) : (s.drainModule m o).ports = s.ports := by simp [State.drainModule]
@[simp] theorem pending_drainModule (m : ModuleNo) (o : Outlet) : (s.drainModule m o).pending = s.pending := by simp [State.drainModule]

/-! ### releaseModule -/

@[simp] theorem held_releaseModule (m : ModuleNo) : (s.releaseModule m).held = s.held := by
  unfold State.releaseModule; repeat' split
  all_goals simp
@[simp] theorem control_releaseModule (m : ModuleNo) : (s.releaseModule m).control = s.control := by
  unfold State.releaseModule; repeat' split
  all_goals simp
@[simp] theorem clock_releaseModule (m : ModuleNo) : (s.releaseModule m).clock = s.clock := by
  unfold State.releaseModule; repeat' split
  all_goals simp
@[simp] theorem plans_releaseModule (m : ModuleNo) : (s.releaseModule m).plans = s.plans := by
  unfold State.releaseModule; repeat' split
  all_goals simp
@[simp] theorem sessions_releaseModule (m : ModuleNo) : (s.releaseModule m).sessions = s.sessions := by
  unfold State.releaseModule; repeat' split
  all_goals simp
@[simp] theorem meters_releaseModule (m : ModuleNo) : (s.releaseModule m).meters = s.meters := by
  unfold State.releaseModule; repeat' split
  all_goals simp
@[simp] theorem line_releaseModule (m : ModuleNo) : (s.releaseModule m).line = s.line := by
  unfold State.releaseModule; repeat' split
  all_goals simp
@[simp] theorem exchanges_releaseModule (m : ModuleNo) : (s.releaseModule m).exchanges = s.exchanges := by
  unfold State.releaseModule; repeat' split
  all_goals simp
@[simp] theorem dispatcher_releaseModule (m : ModuleNo) : (s.releaseModule m).dispatcher = s.dispatcher := by
  unfold State.releaseModule; repeat' split
  all_goals simp
@[simp] theorem closures_releaseModule (m : ModuleNo) : (s.releaseModule m).closures = s.closures := by
  unfold State.releaseModule; repeat' split
  all_goals simp
@[simp] theorem notices_releaseModule (m : ModuleNo) : (s.releaseModule m).notices = s.notices := by
  unfold State.releaseModule; repeat' split
  all_goals simp
@[simp] theorem ports_releaseModule (m : ModuleNo) : (s.releaseModule m).ports = s.ports := by
  unfold State.releaseModule; repeat' split
  all_goals simp
@[simp] theorem pending_releaseModule (m : ModuleNo) : (s.releaseModule m).pending = s.pending := by
  unfold State.releaseModule; repeat' split
  all_goals simp

/-! ### requestModule -/

@[simp] theorem held_requestModule (o : Outlet) : (s.requestModule o).held = s.held := by
  unfold State.requestModule; repeat' split
  all_goals simp
@[simp] theorem control_requestModule (o : Outlet) : (s.requestModule o).control = s.control := by
  unfold State.requestModule; repeat' split
  all_goals simp
@[simp] theorem clock_requestModule (o : Outlet) : (s.requestModule o).clock = s.clock := by
  unfold State.requestModule; repeat' split
  all_goals simp
@[simp] theorem plans_requestModule (o : Outlet) : (s.requestModule o).plans = s.plans := by
  unfold State.requestModule; repeat' split
  all_goals simp
@[simp] theorem sessions_requestModule (o : Outlet) : (s.requestModule o).sessions = s.sessions := by
  unfold State.requestModule; repeat' split
  all_goals simp
@[simp] theorem meters_requestModule (o : Outlet) : (s.requestModule o).meters = s.meters := by
  unfold State.requestModule; repeat' split
  all_goals simp
@[simp] theorem line_requestModule (o : Outlet) : (s.requestModule o).line = s.line := by
  unfold State.requestModule; repeat' split
  all_goals simp
@[simp] theorem exchanges_requestModule (o : Outlet) : (s.requestModule o).exchanges = s.exchanges := by
  unfold State.requestModule; repeat' split
  all_goals simp
@[simp] theorem dispatcher_requestModule (o : Outlet) : (s.requestModule o).dispatcher = s.dispatcher := by
  unfold State.requestModule; repeat' split
  all_goals simp
@[simp] theorem closures_requestModule (o : Outlet) : (s.requestModule o).closures = s.closures := by
  unfold State.requestModule; repeat' split
  all_goals simp
@[simp] theorem notices_requestModule (o : Outlet) : (s.requestModule o).notices = s.notices := by
  unfold State.requestModule; repeat' split
  all_goals simp
@[simp] theorem ports_requestModule (o : Outlet) : (s.requestModule o).ports = s.ports := by
  unfold State.requestModule; repeat' split
  all_goals simp
@[simp] theorem pending_requestModule (o : Outlet) : (s.requestModule o).pending = s.pending := by
  unfold State.requestModule; repeat' split
  all_goals simp

/-! ### outletRelease -/

@[simp] theorem held_releaseIfAssigned (o : Outlet) (m : ModuleNo) : (State.releaseIfAssigned o s m).held = s.held := by
  unfold State.releaseIfAssigned; split <;> simp
@[simp] theorem control_releaseIfAssigned (o : Outlet) (m : ModuleNo) : (State.releaseIfAssigned o s m).control = s.control := by
  unfold State.releaseIfAssigned; split <;> simp
@[simp] theorem clock_releaseIfAssigned (o : Outlet) (m : ModuleNo) : (State.releaseIfAssigned o s m).clock = s.clock := by
  unfold State.releaseIfAssigned; split <;> simp
@[simp] theorem plans_releaseIfAssigned (o : Outlet) (m : ModuleNo) : (State.releaseIfAssigned o s m).plans = s.plans := by
  unfold State.releaseIfAssigned; split <;> simp
@[simp] theorem sessions_releaseIfAssigned (o : Outlet) (m : ModuleNo) : (State.releaseIfAssigned o s m).sessions = s.sessions := by
  unfold State.releaseIfAssigned; split <;> simp
@[simp] theorem meters_releaseIfAssigned (o : Outlet) (m : ModuleNo) : (State.releaseIfAssigned o s m).meters = s.meters := by
  unfold State.releaseIfAssigned; split <;> simp
@[simp] theorem line_releaseIfAssigned (o : Outlet) (m : ModuleNo) : (State.releaseIfAssigned o s m).line = s.line := by
  unfold State.releaseIfAssigned; split <;> simp
@[simp] theorem exchanges_releaseIfAssigned (o : Outlet) (m : ModuleNo) : (State.releaseIfAssigned o s m).exchanges = s.exchanges := by
  unfold State.releaseIfAssigned; split <;> simp
@[simp] theorem dispatcher_releaseIfAssigned (o : Outlet) (m : ModuleNo) : (State.releaseIfAssigned o s m).dispatcher = s.dispatcher := by
  unfold State.releaseIfAssigned; split <;> simp
@[simp] theorem closures_releaseIfAssigned (o : Outlet) (m : ModuleNo) : (State.releaseIfAssigned o s m).closures = s.closures := by
  unfold State.releaseIfAssigned; split <;> simp
@[simp] theorem notices_releaseIfAssigned (o : Outlet) (m : ModuleNo) : (State.releaseIfAssigned o s m).notices = s.notices := by
  unfold State.releaseIfAssigned; split <;> simp
@[simp] theorem ports_releaseIfAssigned (o : Outlet) (m : ModuleNo) : (State.releaseIfAssigned o s m).ports = s.ports := by
  unfold State.releaseIfAssigned; split <;> simp
@[simp] theorem pending_releaseIfAssigned (o : Outlet) (m : ModuleNo) : (State.releaseIfAssigned o s m).pending = s.pending := by
  unfold State.releaseIfAssigned; split <;> simp

@[simp] theorem held_outletRelease (o : Outlet) : (s.outletRelease o).held = s.held := 
  foldl_field State.held (State.releaseIfAssigned o) (fun s a => by simp) _ s
@[simp] theorem control_outletRelease (o : Outlet) : (s.outletRelease o).control = s.control := 
  foldl_field State.control (State.releaseIfAssigned o) (fun s a => by simp) _ s
@[simp] theorem clock_outletRelease (o : Outlet) : (s.outletRelease o).clock = s.clock := 
  foldl_field State.clock (State.releaseIfAssigned o) (fun s a => by simp) _ s
@[simp] theorem plans_outletRelease (o : Outlet) : (s.outletRelease o).plans = s.plans := 
  foldl_field State.plans (State.releaseIfAssigned o) (fun s a => by simp) _ s
@[simp] theorem sessions_outletRelease (o : Outlet) : (s.outletRelease o).sessions = s.sessions := 
  foldl_field State.sessions (State.releaseIfAssigned o) (fun s a => by simp) _ s
@[simp] theorem meters_outletRelease (o : Outlet) : (s.outletRelease o).meters = s.meters := 
  foldl_field State.meters (State.releaseIfAssigned o) (fun s a => by simp) _ s
@[simp] theorem line_outletRelease (o : Outlet) : (s.outletRelease o).line = s.line := 
  foldl_field State.line (State.releaseIfAssigned o) (fun s a => by simp) _ s
@[simp] theorem exchanges_outletRelease (o : Outlet) : (s.outletRelease o).exchanges = s.exchanges := 
  foldl_field State.exchanges (State.releaseIfAssigned o) (fun s a => by simp) _ s
@[simp] theorem dispatcher_outletRelease (o : Outlet) : (s.outletRelease o).dispatcher = s.dispatcher := 
  foldl_field State.dispatcher (State.releaseIfAssigned o) (fun s a => by simp) _ s
@[simp] theorem closures_outletRelease (o : Outlet) : (s.outletRelease o).closures = s.closures := 
  foldl_field State.closures (State.releaseIfAssigned o) (fun s a => by simp) _ s
@[simp] theorem notices_outletRelease (o : Outlet) : (s.outletRelease o).notices = s.notices := 
  foldl_field State.notices (State.releaseIfAssigned o) (fun s a => by simp) _ s
@[simp] theorem ports_outletRelease (o : Outlet) : (s.outletRelease o).ports = s.ports := 
  foldl_field State.ports (State.releaseIfAssigned o) (fun s a => by simp) _ s
@[simp] theorem pending_outletRelease (o : Outlet) : (s.outletRelease o).pending = s.pending := 
  foldl_field State.pending (State.releaseIfAssigned o) (fun s a => by simp) _ s

/-! ### setAndRelease -/

@[simp] theorem held_setAndRelease (o : Outlet) (v : Session) : (s.setAndRelease o v).held = s.held := by simp [State.setAndRelease]
@[simp] theorem control_setAndRelease (o : Outlet) (v : Session) : (s.setAndRelease o v).control = s.control := by simp [State.setAndRelease]
@[simp] theorem clock_setAndRelease (o : Outlet) (v : Session) : (s.setAndRelease o v).clock = s.clock := by simp [State.setAndRelease]
@[simp] theorem plans_setAndRelease (o : Outlet) (v : Session) : (s.setAndRelease o v).plans = s.plans := by simp [State.setAndRelease]
@[simp] theorem meters_setAndRelease (o : Outlet) (v : Session) : (s.setAndRelease o v).meters = s.meters := by simp [State.setAndRelease]
@[simp] theorem line_setAndRelease (o : Outlet) (v : Session) : (s.setAndRelease o v).line = s.line := by simp [State.setAndRelease]
@[simp] theorem exchanges_setAndRelease (o : Outlet) (v : Session) : (s.setAndRelease o v).exchanges = s.exchanges := by simp [State.setAndRelease]
@[simp] theorem dispatcher_setAndRelease (o : Outlet) (v : Session) : (s.setAndRelease o v).dispatcher = s.dispatcher := by simp [State.setAndRelease]
@[simp] theorem closures_setAndRelease (o : Outlet) (v : Session) : (s.setAndRelease o v).closures = s.closures := by simp [State.setAndRelease]
@[simp] theorem notices_setAndRelease (o : Outlet) (v : Session) : (s.setAndRelease o v).notices = s.notices := by simp [State.setAndRelease]
@[simp] theorem ports_setAndRelease (o : Outlet) (v : Session) : (s.setAndRelease o v).ports = s.ports := by simp [State.setAndRelease]
@[simp] theorem pending_setAndRelease (o : Outlet) (v : Session) : (s.setAndRelease o v).pending = s.pending := by simp [State.setAndRelease]

/-! ### enterStopping -/

@[simp] theorem held_enterStopping (o : Outlet) (r : EndReason) : (s.enterStopping o r).held = s.held := by
  unfold State.enterStopping; repeat' split
  all_goals simp
@[simp] theorem control_enterStopping (o : Outlet) (r : EndReason) : (s.enterStopping o r).control = s.control := by
  unfold State.enterStopping; repeat' split
  all_goals simp
@[simp] theorem clock_enterStopping (o : Outlet) (r : EndReason) : (s.enterStopping o r).clock = s.clock := by
  unfold State.enterStopping; repeat' split
  all_goals simp
@[simp] theorem plans_enterStopping (o : Outlet) (r : EndReason) : (s.enterStopping o r).plans = s.plans := by
  unfold State.enterStopping; repeat' split
  all_goals simp
@[simp] theorem meters_enterStopping (o : Outlet) (r : EndReason) : (s.enterStopping o r).meters = s.meters := by
  unfold State.enterStopping; repeat' split
  all_goals simp
@[simp] theorem line_enterStopping (o : Outlet) (r : EndReason) : (s.enterStopping o r).line = s.line := by
  unfold State.enterStopping; repeat' split
  all_goals simp
@[simp] theorem exchanges_enterStopping (o : Outlet) (r : EndReason) : (s.enterStopping o r).exchanges = s.exchanges := by
  unfold State.enterStopping; repeat' split
  all_goals simp
@[simp] theorem dispatcher_enterStopping (o : Outlet) (r : EndReason) : (s.enterStopping o r).dispatcher = s.dispatcher := by
  unfold State.enterStopping; repeat' split
  all_goals simp
@[simp] theorem closures_enterStopping (o : Outlet) (r : EndReason) : (s.enterStopping o r).closures = s.closures := by
  unfold State.enterStopping; repeat' split
  all_goals simp
@[simp] theorem ports_enterStopping (o : Outlet) (r : EndReason) : (s.enterStopping o r).ports = s.ports := by
  unfold State.enterStopping; repeat' split
  all_goals simp
@[simp] theorem pending_enterStopping (o : Outlet) (r : EndReason) : (s.enterStopping o r).pending = s.pending := by
  unfold State.enterStopping; repeat' split
  all_goals simp

/-! ### sendFundsLow -/

@[simp] theorem held_sendFundsLow (o : Outlet) : (s.sendFundsLow o).held = s.held := by
  unfold State.sendFundsLow; repeat' split
  all_goals simp
@[simp] theorem control_sendFundsLow (o : Outlet) : (s.sendFundsLow o).control = s.control := by
  unfold State.sendFundsLow; repeat' split
  all_goals simp
@[simp] theorem clock_sendFundsLow (o : Outlet) : (s.sendFundsLow o).clock = s.clock := by
  unfold State.sendFundsLow; repeat' split
  all_goals simp
@[simp] theorem plans_sendFundsLow (o : Outlet) : (s.sendFundsLow o).plans = s.plans := by
  unfold State.sendFundsLow; repeat' split
  all_goals simp
@[simp] theorem meters_sendFundsLow (o : Outlet) : (s.sendFundsLow o).meters = s.meters := by
  unfold State.sendFundsLow; repeat' split
  all_goals simp
@[simp] theorem line_sendFundsLow (o : Outlet) : (s.sendFundsLow o).line = s.line := by
  unfold State.sendFundsLow; repeat' split
  all_goals simp
@[simp] theorem exchanges_sendFundsLow (o : Outlet) : (s.sendFundsLow o).exchanges = s.exchanges := by
  unfold State.sendFundsLow; repeat' split
  all_goals simp
@[simp] theorem dispatcher_sendFundsLow (o : Outlet) : (s.sendFundsLow o).dispatcher = s.dispatcher := by
  unfold State.sendFundsLow; repeat' split
  all_goals simp
@[simp] theorem pool_sendFundsLow (o : Outlet) : (s.sendFundsLow o).pool = s.pool := by
  unfold State.sendFundsLow; repeat' split
  all_goals simp
@[simp] theorem closures_sendFundsLow (o : Outlet) : (s.sendFundsLow o).closures = s.closures := by
  unfold State.sendFundsLow; repeat' split
  all_goals simp
@[simp] theorem ports_sendFundsLow (o : Outlet) : (s.sendFundsLow o).ports = s.ports := by
  unfold State.sendFundsLow; repeat' split
  all_goals simp
@[simp] theorem pending_sendFundsLow (o : Outlet) : (s.sendFundsLow o).pending = s.pending := by
  unfold State.sendFundsLow; repeat' split
  all_goals simp

/-! ### evaluateFunds -/

@[simp] theorem held_evaluateFunds (o : Outlet) : (s.evaluateFunds o).held = s.held := by
  unfold State.evaluateFunds; dsimp only; repeat' split
  all_goals simp
@[simp] theorem control_evaluateFunds (o : Outlet) : (s.evaluateFunds o).control = s.control := by
  unfold State.evaluateFunds; dsimp only; repeat' split
  all_goals simp
@[simp] theorem clock_evaluateFunds (o : Outlet) : (s.evaluateFunds o).clock = s.clock := by
  unfold State.evaluateFunds; dsimp only; repeat' split
  all_goals simp
@[simp] theorem plans_evaluateFunds (o : Outlet) : (s.evaluateFunds o).plans = s.plans := by
  unfold State.evaluateFunds; dsimp only; repeat' split
  all_goals simp
@[simp] theorem meters_evaluateFunds (o : Outlet) : (s.evaluateFunds o).meters = s.meters := by
  unfold State.evaluateFunds; dsimp only; repeat' split
  all_goals simp
@[simp] theorem line_evaluateFunds (o : Outlet) : (s.evaluateFunds o).line = s.line := by
  unfold State.evaluateFunds; dsimp only; repeat' split
  all_goals simp
@[simp] theorem exchanges_evaluateFunds (o : Outlet) : (s.evaluateFunds o).exchanges = s.exchanges := by
  unfold State.evaluateFunds; dsimp only; repeat' split
  all_goals simp
@[simp] theorem dispatcher_evaluateFunds (o : Outlet) : (s.evaluateFunds o).dispatcher = s.dispatcher := by
  unfold State.evaluateFunds; dsimp only; repeat' split
  all_goals simp
@[simp] theorem closures_evaluateFunds (o : Outlet) : (s.evaluateFunds o).closures = s.closures := by
  unfold State.evaluateFunds; dsimp only; repeat' split
  all_goals simp
@[simp] theorem ports_evaluateFunds (o : Outlet) : (s.evaluateFunds o).ports = s.ports := by
  unfold State.evaluateFunds; dsimp only; repeat' split
  all_goals simp
@[simp] theorem pending_evaluateFunds (o : Outlet) : (s.evaluateFunds o).pending = s.pending := by
  unfold State.evaluateFunds; dsimp only; repeat' split
  all_goals simp

/-! ### evaluateTopup -/

@[simp] theorem held_evaluateTopup (o : Outlet) : (s.evaluateTopup o).held = s.held := by
  unfold State.evaluateTopup; dsimp only; repeat' split
  all_goals simp
@[simp] theorem control_evaluateTopup (o : Outlet) : (s.evaluateTopup o).control = s.control := by
  unfold State.evaluateTopup; dsimp only; repeat' split
  all_goals simp
@[simp] theorem clock_evaluateTopup (o : Outlet) : (s.evaluateTopup o).clock = s.clock := by
  unfold State.evaluateTopup; dsimp only; repeat' split
  all_goals simp
@[simp] theorem plans_evaluateTopup (o : Outlet) : (s.evaluateTopup o).plans = s.plans := by
  unfold State.evaluateTopup; dsimp only; repeat' split
  all_goals simp
@[simp] theorem meters_evaluateTopup (o : Outlet) : (s.evaluateTopup o).meters = s.meters := by
  unfold State.evaluateTopup; dsimp only; repeat' split
  all_goals simp
@[simp] theorem line_evaluateTopup (o : Outlet) : (s.evaluateTopup o).line = s.line := by
  unfold State.evaluateTopup; dsimp only; repeat' split
  all_goals simp
@[simp] theorem exchanges_evaluateTopup (o : Outlet) : (s.evaluateTopup o).exchanges = s.exchanges := by
  unfold State.evaluateTopup; dsimp only; repeat' split
  all_goals simp
@[simp] theorem dispatcher_evaluateTopup (o : Outlet) : (s.evaluateTopup o).dispatcher = s.dispatcher := by
  unfold State.evaluateTopup; dsimp only; repeat' split
  all_goals simp
@[simp] theorem closures_evaluateTopup (o : Outlet) : (s.evaluateTopup o).closures = s.closures := by
  unfold State.evaluateTopup; dsimp only; repeat' split
  all_goals simp
@[simp] theorem ports_evaluateTopup (o : Outlet) : (s.evaluateTopup o).ports = s.ports := by
  unfold State.evaluateTopup; dsimp only; repeat' split
  all_goals simp
@[simp] theorem pending_evaluateTopup (o : Outlet) : (s.evaluateTopup o).pending = s.pending := by
  unfold State.evaluateTopup; dsimp only; repeat' split
  all_goals simp

/-! ### strayPulse -/

@[simp] theorem held_strayPulse (o : Outlet) (w : Nat) : (s.strayPulse o w).held = s.held := by simp [State.strayPulse]
@[simp] theorem control_strayPulse (o : Outlet) (w : Nat) : (s.strayPulse o w).control = s.control := by simp [State.strayPulse]
@[simp] theorem clock_strayPulse (o : Outlet) (w : Nat) : (s.strayPulse o w).clock = s.clock := by simp [State.strayPulse]
@[simp] theorem plans_strayPulse (o : Outlet) (w : Nat) : (s.strayPulse o w).plans = s.plans := by simp [State.strayPulse]
@[simp] theorem sessions_strayPulse (o : Outlet) (w : Nat) : (s.strayPulse o w).sessions = s.sessions := by simp [State.strayPulse]
@[simp] theorem line_strayPulse (o : Outlet) (w : Nat) : (s.strayPulse o w).line = s.line := by simp [State.strayPulse]
@[simp] theorem exchanges_strayPulse (o : Outlet) (w : Nat) : (s.strayPulse o w).exchanges = s.exchanges := by simp [State.strayPulse]
@[simp] theorem dispatcher_strayPulse (o : Outlet) (w : Nat) : (s.strayPulse o w).dispatcher = s.dispatcher := by simp [State.strayPulse]
@[simp] theorem pool_strayPulse (o : Outlet) (w : Nat) : (s.strayPulse o w).pool = s.pool := by simp [State.strayPulse]
@[simp] theorem closures_strayPulse (o : Outlet) (w : Nat) : (s.strayPulse o w).closures = s.closures := by simp [State.strayPulse]
@[simp] theorem ports_strayPulse (o : Outlet) (w : Nat) : (s.strayPulse o w).ports = s.ports := by simp [State.strayPulse]
@[simp] theorem pending_strayPulse (o : Outlet) (w : Nat) : (s.strayPulse o w).pending = s.pending := by simp [State.strayPulse]

/-! ### attributePulse -/

@[simp] theorem held_attributePulse (o : Outlet) (w n : Nat) : (s.attributePulse o w n).held = s.held := by
  unfold State.attributePulse; repeat' split
  all_goals simp
@[simp] theorem control_attributePulse (o : Outlet) (w n : Nat) : (s.attributePulse o w n).control = s.control := by
  unfold State.attributePulse; repeat' split
  all_goals simp
@[simp] theorem clock_attributePulse (o : Outlet) (w n : Nat) : (s.attributePulse o w n).clock = s.clock := by
  unfold State.attributePulse; repeat' split
  all_goals simp
@[simp] theorem plans_attributePulse (o : Outlet) (w n : Nat) : (s.attributePulse o w n).plans = s.plans := by
  unfold State.attributePulse; repeat' split
  all_goals simp
@[simp] theorem line_attributePulse (o : Outlet) (w n : Nat) : (s.attributePulse o w n).line = s.line := by
  unfold State.attributePulse; repeat' split
  all_goals simp
@[simp] theorem exchanges_attributePulse (o : Outlet) (w n : Nat) : (s.attributePulse o w n).exchanges = s.exchanges := by
  unfold State.attributePulse; repeat' split
  all_goals simp
@[simp] theorem dispatcher_attributePulse (o : Outlet) (w n : Nat) : (s.attributePulse o w n).dispatcher = s.dispatcher := by
  unfold State.attributePulse; repeat' split
  all_goals simp
@[simp] theorem closures_attributePulse (o : Outlet) (w n : Nat) : (s.attributePulse o w n).closures = s.closures := by
  unfold State.attributePulse; repeat' split
  all_goals simp
@[simp] theorem ports_attributePulse (o : Outlet) (w n : Nat) : (s.attributePulse o w n).ports = s.ports := by
  unfold State.attributePulse; repeat' split
  all_goals simp
@[simp] theorem pending_attributePulse (o : Outlet) (w n : Nat) : (s.attributePulse o w n).pending = s.pending := by
  unfold State.attributePulse; repeat' split
  all_goals simp

/-! ### firstEntry -/

@[simp] theorem held_firstEntry (o : Outlet) (v : Session) (r : Report) : (s.firstEntry o v r).held = s.held := by simp [State.firstEntry]
@[simp] theorem control_firstEntry (o : Outlet) (v : Session) (r : Report) : (s.firstEntry o v r).control = s.control := by simp [State.firstEntry]
@[simp] theorem clock_firstEntry (o : Outlet) (v : Session) (r : Report) : (s.firstEntry o v r).clock = s.clock := by simp [State.firstEntry]
@[simp] theorem plans_firstEntry (o : Outlet) (v : Session) (r : Report) : (s.firstEntry o v r).plans = s.plans := by simp [State.firstEntry]
@[simp] theorem meters_firstEntry (o : Outlet) (v : Session) (r : Report) : (s.firstEntry o v r).meters = s.meters := by simp [State.firstEntry]
@[simp] theorem line_firstEntry (o : Outlet) (v : Session) (r : Report) : (s.firstEntry o v r).line = s.line := by simp [State.firstEntry]
@[simp] theorem exchanges_firstEntry (o : Outlet) (v : Session) (r : Report) : (s.firstEntry o v r).exchanges = s.exchanges := by simp [State.firstEntry]
@[simp] theorem dispatcher_firstEntry (o : Outlet) (v : Session) (r : Report) : (s.firstEntry o v r).dispatcher = s.dispatcher := by simp [State.firstEntry]
@[simp] theorem pool_firstEntry (o : Outlet) (v : Session) (r : Report) : (s.firstEntry o v r).pool = s.pool := by simp [State.firstEntry]
@[simp] theorem closures_firstEntry (o : Outlet) (v : Session) (r : Report) : (s.firstEntry o v r).closures = s.closures := by simp [State.firstEntry]
@[simp] theorem ports_firstEntry (o : Outlet) (v : Session) (r : Report) : (s.firstEntry o v r).ports = s.ports := by simp [State.firstEntry]
@[simp] theorem pending_firstEntry (o : Outlet) (v : Session) (r : Report) : (s.firstEntry o v r).pending = s.pending := by simp [State.firstEntry]

/-! ### applyPedestal -/

@[simp] theorem held_applyPedestal (o : Outlet) (v : Session) (r : Report) : (s.applyPedestal o v r).held = s.held := by
  unfold State.applyPedestal; repeat' split
  all_goals simp
@[simp] theorem control_applyPedestal (o : Outlet) (v : Session) (r : Report) : (s.applyPedestal o v r).control = s.control := by
  unfold State.applyPedestal; repeat' split
  all_goals simp
@[simp] theorem clock_applyPedestal (o : Outlet) (v : Session) (r : Report) : (s.applyPedestal o v r).clock = s.clock := by
  unfold State.applyPedestal; repeat' split
  all_goals simp
@[simp] theorem plans_applyPedestal (o : Outlet) (v : Session) (r : Report) : (s.applyPedestal o v r).plans = s.plans := by
  unfold State.applyPedestal; repeat' split
  all_goals simp
@[simp] theorem meters_applyPedestal (o : Outlet) (v : Session) (r : Report) : (s.applyPedestal o v r).meters = s.meters := by
  unfold State.applyPedestal; repeat' split
  all_goals simp
@[simp] theorem line_applyPedestal (o : Outlet) (v : Session) (r : Report) : (s.applyPedestal o v r).line = s.line := by
  unfold State.applyPedestal; repeat' split
  all_goals simp
@[simp] theorem exchanges_applyPedestal (o : Outlet) (v : Session) (r : Report) : (s.applyPedestal o v r).exchanges = s.exchanges := by
  unfold State.applyPedestal; repeat' split
  all_goals simp
@[simp] theorem dispatcher_applyPedestal (o : Outlet) (v : Session) (r : Report) : (s.applyPedestal o v r).dispatcher = s.dispatcher := by
  unfold State.applyPedestal; repeat' split
  all_goals simp
@[simp] theorem closures_applyPedestal (o : Outlet) (v : Session) (r : Report) : (s.applyPedestal o v r).closures = s.closures := by
  unfold State.applyPedestal; repeat' split
  all_goals simp
@[simp] theorem ports_applyPedestal (o : Outlet) (v : Session) (r : Report) : (s.applyPedestal o v r).ports = s.ports := by
  unfold State.applyPedestal; repeat' split
  all_goals simp
@[simp] theorem pending_applyPedestal (o : Outlet) (v : Session) (r : Report) : (s.applyPedestal o v r).pending = s.pending := by
  unfold State.applyPedestal; repeat' split
  all_goals simp

/-! ### applyReport -/

@[simp] theorem held_applyReport (o : Outlet) (r : Report) : (s.applyReport o r).held = s.held := by
  unfold State.applyReport; repeat' split
  all_goals simp
@[simp] theorem control_applyReport (o : Outlet) (r : Report) : (s.applyReport o r).control = s.control := by
  unfold State.applyReport; repeat' split
  all_goals simp
@[simp] theorem clock_applyReport (o : Outlet) (r : Report) : (s.applyReport o r).clock = s.clock := by
  unfold State.applyReport; repeat' split
  all_goals simp
@[simp] theorem plans_applyReport (o : Outlet) (r : Report) : (s.applyReport o r).plans = s.plans := by
  unfold State.applyReport; repeat' split
  all_goals simp
@[simp] theorem meters_applyReport (o : Outlet) (r : Report) : (s.applyReport o r).meters = s.meters := by
  unfold State.applyReport; repeat' split
  all_goals simp
@[simp] theorem line_applyReport (o : Outlet) (r : Report) : (s.applyReport o r).line = s.line := by
  unfold State.applyReport; repeat' split
  all_goals simp
@[simp] theorem exchanges_applyReport (o : Outlet) (r : Report) : (s.applyReport o r).exchanges = s.exchanges := by
  unfold State.applyReport; repeat' split
  all_goals simp
@[simp] theorem dispatcher_applyReport (o : Outlet) (r : Report) : (s.applyReport o r).dispatcher = s.dispatcher := by
  unfold State.applyReport; repeat' split
  all_goals simp
@[simp] theorem closures_applyReport (o : Outlet) (r : Report) : (s.applyReport o r).closures = s.closures := by
  unfold State.applyReport; repeat' split
  all_goals simp
@[simp] theorem ports_applyReport (o : Outlet) (r : Report) : (s.applyReport o r).ports = s.ports := by
  unfold State.applyReport; repeat' split
  all_goals simp
@[simp] theorem pending_applyReport (o : Outlet) (r : Report) : (s.applyReport o r).pending = s.pending := by
  unfold State.applyReport; repeat' split
  all_goals simp

/-! ### resume -/

@[simp] theorem held_resume (o : Outlet) : (s.resume o).held = s.held := by
  unfold State.resume; repeat' split
  all_goals simp
@[simp] theorem control_resume (o : Outlet) : (s.resume o).control = s.control := by
  unfold State.resume; repeat' split
  all_goals simp
@[simp] theorem clock_resume (o : Outlet) : (s.resume o).clock = s.clock := by
  unfold State.resume; repeat' split
  all_goals simp
@[simp] theorem plans_resume (o : Outlet) : (s.resume o).plans = s.plans := by
  unfold State.resume; repeat' split
  all_goals simp
@[simp] theorem meters_resume (o : Outlet) : (s.resume o).meters = s.meters := by
  unfold State.resume; repeat' split
  all_goals simp
@[simp] theorem line_resume (o : Outlet) : (s.resume o).line = s.line := by
  unfold State.resume; repeat' split
  all_goals simp
@[simp] theorem exchanges_resume (o : Outlet) : (s.resume o).exchanges = s.exchanges := by
  unfold State.resume; repeat' split
  all_goals simp
@[simp] theorem dispatcher_resume (o : Outlet) : (s.resume o).dispatcher = s.dispatcher := by
  unfold State.resume; repeat' split
  all_goals simp
@[simp] theorem closures_resume (o : Outlet) : (s.resume o).closures = s.closures := by
  unfold State.resume; repeat' split
  all_goals simp
@[simp] theorem notices_resume (o : Outlet) : (s.resume o).notices = s.notices := by
  unfold State.resume; repeat' split
  all_goals simp
@[simp] theorem ports_resume (o : Outlet) : (s.resume o).ports = s.ports := by
  unfold State.resume; repeat' split
  all_goals simp
@[simp] theorem pending_resume (o : Outlet) : (s.resume o).pending = s.pending := by
  unfold State.resume; repeat' split
  all_goals simp

/-! ### recordMeter -/

@[simp] theorem held_recordMeter (o : Outlet) (r : Report) : (s.recordMeter o r).held = s.held := by
  unfold State.recordMeter; repeat' split
  all_goals simp
@[simp] theorem control_recordMeter (o : Outlet) (r : Report) : (s.recordMeter o r).control = s.control := by
  unfold State.recordMeter; repeat' split
  all_goals simp
@[simp] theorem clock_recordMeter (o : Outlet) (r : Report) : (s.recordMeter o r).clock = s.clock := by
  unfold State.recordMeter; repeat' split
  all_goals simp
@[simp] theorem plans_recordMeter (o : Outlet) (r : Report) : (s.recordMeter o r).plans = s.plans := by
  unfold State.recordMeter; repeat' split
  all_goals simp
@[simp] theorem meters_recordMeter (o : Outlet) (r : Report) : (s.recordMeter o r).meters = s.meters := by
  unfold State.recordMeter; repeat' split
  all_goals simp
@[simp] theorem line_recordMeter (o : Outlet) (r : Report) : (s.recordMeter o r).line = s.line := by
  unfold State.recordMeter; repeat' split
  all_goals simp
@[simp] theorem exchanges_recordMeter (o : Outlet) (r : Report) : (s.recordMeter o r).exchanges = s.exchanges := by
  unfold State.recordMeter; repeat' split
  all_goals simp
@[simp] theorem dispatcher_recordMeter (o : Outlet) (r : Report) : (s.recordMeter o r).dispatcher = s.dispatcher := by
  unfold State.recordMeter; repeat' split
  all_goals simp
@[simp] theorem pool_recordMeter (o : Outlet) (r : Report) : (s.recordMeter o r).pool = s.pool := by
  unfold State.recordMeter; repeat' split
  all_goals simp
@[simp] theorem closures_recordMeter (o : Outlet) (r : Report) : (s.recordMeter o r).closures = s.closures := by
  unfold State.recordMeter; repeat' split
  all_goals simp
@[simp] theorem notices_recordMeter (o : Outlet) (r : Report) : (s.recordMeter o r).notices = s.notices := by
  unfold State.recordMeter; repeat' split
  all_goals simp
@[simp] theorem ports_recordMeter (o : Outlet) (r : Report) : (s.recordMeter o r).ports = s.ports := by
  unfold State.recordMeter; repeat' split
  all_goals simp
@[simp] theorem pending_recordMeter (o : Outlet) (r : Report) : (s.recordMeter o r).pending = s.pending := by
  unfold State.recordMeter; repeat' split
  all_goals simp

/-! ### overdrawCheck -/

@[simp] theorem held_overdrawCheck (o : Outlet) (n : Nat) : (s.overdrawCheck o n).held = s.held := by
  unfold State.overdrawCheck; dsimp only; repeat' split
  all_goals simp
@[simp] theorem control_overdrawCheck (o : Outlet) (n : Nat) : (s.overdrawCheck o n).control = s.control := by
  unfold State.overdrawCheck; dsimp only; repeat' split
  all_goals simp
@[simp] theorem clock_overdrawCheck (o : Outlet) (n : Nat) : (s.overdrawCheck o n).clock = s.clock := by
  unfold State.overdrawCheck; dsimp only; repeat' split
  all_goals simp
@[simp] theorem plans_overdrawCheck (o : Outlet) (n : Nat) : (s.overdrawCheck o n).plans = s.plans := by
  unfold State.overdrawCheck; dsimp only; repeat' split
  all_goals simp
@[simp] theorem line_overdrawCheck (o : Outlet) (n : Nat) : (s.overdrawCheck o n).line = s.line := by
  unfold State.overdrawCheck; dsimp only; repeat' split
  all_goals simp
@[simp] theorem exchanges_overdrawCheck (o : Outlet) (n : Nat) : (s.overdrawCheck o n).exchanges = s.exchanges := by
  unfold State.overdrawCheck; dsimp only; repeat' split
  all_goals simp
@[simp] theorem dispatcher_overdrawCheck (o : Outlet) (n : Nat) : (s.overdrawCheck o n).dispatcher = s.dispatcher := by
  unfold State.overdrawCheck; dsimp only; repeat' split
  all_goals simp
@[simp] theorem closures_overdrawCheck (o : Outlet) (n : Nat) : (s.overdrawCheck o n).closures = s.closures := by
  unfold State.overdrawCheck; dsimp only; repeat' split
  all_goals simp
@[simp] theorem ports_overdrawCheck (o : Outlet) (n : Nat) : (s.overdrawCheck o n).ports = s.ports := by
  unfold State.overdrawCheck; dsimp only; repeat' split
  all_goals simp
@[simp] theorem pending_overdrawCheck (o : Outlet) (n : Nat) : (s.overdrawCheck o n).pending = s.pending := by
  unfold State.overdrawCheck; dsimp only; repeat' split
  all_goals simp

/-! ### sessionFresh -/

@[simp] theorem held_sessionFresh (o : Outlet) (r : Report) : (s.sessionFresh o r).held = s.held := by
  unfold State.sessionFresh; dsimp only; repeat' split
  all_goals simp
@[simp] theorem control_sessionFresh (o : Outlet) (r : Report) : (s.sessionFresh o r).control = s.control := by
  unfold State.sessionFresh; dsimp only; repeat' split
  all_goals simp
@[simp] theorem clock_sessionFresh (o : Outlet) (r : Report) : (s.sessionFresh o r).clock = s.clock := by
  unfold State.sessionFresh; dsimp only; repeat' split
  all_goals simp
@[simp] theorem plans_sessionFresh (o : Outlet) (r : Report) : (s.sessionFresh o r).plans = s.plans := by
  unfold State.sessionFresh; dsimp only; repeat' split
  all_goals simp
@[simp] theorem line_sessionFresh (o : Outlet) (r : Report) : (s.sessionFresh o r).line = s.line := by
  unfold State.sessionFresh; dsimp only; repeat' split
  all_goals simp
@[simp] theorem exchanges_sessionFresh (o : Outlet) (r : Report) : (s.sessionFresh o r).exchanges = s.exchanges := by
  unfold State.sessionFresh; dsimp only; repeat' split
  all_goals simp
@[simp] theorem dispatcher_sessionFresh (o : Outlet) (r : Report) : (s.sessionFresh o r).dispatcher = s.dispatcher := by
  unfold State.sessionFresh; dsimp only; repeat' split
  all_goals simp
@[simp] theorem closures_sessionFresh (o : Outlet) (r : Report) : (s.sessionFresh o r).closures = s.closures := by
  unfold State.sessionFresh; dsimp only; repeat' split
  all_goals simp
@[simp] theorem ports_sessionFresh (o : Outlet) (r : Report) : (s.sessionFresh o r).ports = s.ports := by
  unfold State.sessionFresh; dsimp only; repeat' split
  all_goals simp
@[simp] theorem pending_sessionFresh (o : Outlet) (r : Report) : (s.sessionFresh o r).pending = s.pending := by
  unfold State.sessionFresh; dsimp only; repeat' split
  all_goals simp

/-! ### suspend -/

@[simp] theorem held_suspend (o : Outlet) (v : Session) (r : Resumable) : (s.suspend o v r).held = s.held := by simp [State.suspend]
@[simp] theorem control_suspend (o : Outlet) (v : Session) (r : Resumable) : (s.suspend o v r).control = s.control := by simp [State.suspend]
@[simp] theorem clock_suspend (o : Outlet) (v : Session) (r : Resumable) : (s.suspend o v r).clock = s.clock := by simp [State.suspend]
@[simp] theorem plans_suspend (o : Outlet) (v : Session) (r : Resumable) : (s.suspend o v r).plans = s.plans := by simp [State.suspend]
@[simp] theorem meters_suspend (o : Outlet) (v : Session) (r : Resumable) : (s.suspend o v r).meters = s.meters := by simp [State.suspend]
@[simp] theorem line_suspend (o : Outlet) (v : Session) (r : Resumable) : (s.suspend o v r).line = s.line := by simp [State.suspend]
@[simp] theorem exchanges_suspend (o : Outlet) (v : Session) (r : Resumable) : (s.suspend o v r).exchanges = s.exchanges := by simp [State.suspend]
@[simp] theorem dispatcher_suspend (o : Outlet) (v : Session) (r : Resumable) : (s.suspend o v r).dispatcher = s.dispatcher := by simp [State.suspend]
@[simp] theorem closures_suspend (o : Outlet) (v : Session) (r : Resumable) : (s.suspend o v r).closures = s.closures := by simp [State.suspend]
@[simp] theorem ports_suspend (o : Outlet) (v : Session) (r : Resumable) : (s.suspend o v r).ports = s.ports := by simp [State.suspend]
@[simp] theorem pending_suspend (o : Outlet) (v : Session) (r : Resumable) : (s.suspend o v r).pending = s.pending := by simp [State.suspend]

/-! ### linkLost -/

@[simp] theorem held_linkLost (o : Outlet) : (s.linkLost o).held = s.held := by
  unfold State.linkLost; repeat' split
  all_goals simp
@[simp] theorem control_linkLost (o : Outlet) : (s.linkLost o).control = s.control := by
  unfold State.linkLost; repeat' split
  all_goals simp
@[simp] theorem clock_linkLost (o : Outlet) : (s.linkLost o).clock = s.clock := by
  unfold State.linkLost; repeat' split
  all_goals simp
@[simp] theorem plans_linkLost (o : Outlet) : (s.linkLost o).plans = s.plans := by
  unfold State.linkLost; repeat' split
  all_goals simp
@[simp] theorem meters_linkLost (o : Outlet) : (s.linkLost o).meters = s.meters := by
  unfold State.linkLost; repeat' split
  all_goals simp
@[simp] theorem line_linkLost (o : Outlet) : (s.linkLost o).line = s.line := by
  unfold State.linkLost; repeat' split
  all_goals simp
@[simp] theorem exchanges_linkLost (o : Outlet) : (s.linkLost o).exchanges = s.exchanges := by
  unfold State.linkLost; repeat' split
  all_goals simp
@[simp] theorem dispatcher_linkLost (o : Outlet) : (s.linkLost o).dispatcher = s.dispatcher := by
  unfold State.linkLost; repeat' split
  all_goals simp
@[simp] theorem closures_linkLost (o : Outlet) : (s.linkLost o).closures = s.closures := by
  unfold State.linkLost; repeat' split
  all_goals simp
@[simp] theorem ports_linkLost (o : Outlet) : (s.linkLost o).ports = s.ports := by
  unfold State.linkLost; repeat' split
  all_goals simp
@[simp] theorem pending_linkLost (o : Outlet) : (s.linkLost o).pending = s.pending := by
  unfold State.linkLost; repeat' split
  all_goals simp

/-! ### freshTake -/

@[simp] theorem held_freshTake (o : Outlet) (r : Report) : (s.freshTake o r).held = s.held := by simp [State.freshTake]
@[simp] theorem control_freshTake (o : Outlet) (r : Report) : (s.freshTake o r).control = s.control := by simp [State.freshTake]
@[simp] theorem clock_freshTake (o : Outlet) (r : Report) : (s.freshTake o r).clock = s.clock := by simp [State.freshTake]
@[simp] theorem plans_freshTake (o : Outlet) (r : Report) : (s.freshTake o r).plans = s.plans := by simp [State.freshTake]
@[simp] theorem dispatcher_freshTake (o : Outlet) (r : Report) : (s.freshTake o r).dispatcher = s.dispatcher := by simp [State.freshTake]
@[simp] theorem closures_freshTake (o : Outlet) (r : Report) : (s.freshTake o r).closures = s.closures := by simp [State.freshTake]
@[simp] theorem ports_freshTake (o : Outlet) (r : Report) : (s.freshTake o r).ports = s.ports := by simp [State.freshTake]
@[simp] theorem pending_freshTake (o : Outlet) (r : Report) : (s.freshTake o r).pending = s.pending := by simp [State.freshTake]

/-! ### staleTake -/

@[simp] theorem held_staleTake (o : Outlet) : (s.staleTake o).held = s.held := by
  unfold State.staleTake; dsimp only; repeat' split
  all_goals simp
@[simp] theorem control_staleTake (o : Outlet) : (s.staleTake o).control = s.control := by
  unfold State.staleTake; dsimp only; repeat' split
  all_goals simp
@[simp] theorem clock_staleTake (o : Outlet) : (s.staleTake o).clock = s.clock := by
  unfold State.staleTake; dsimp only; repeat' split
  all_goals simp
@[simp] theorem plans_staleTake (o : Outlet) : (s.staleTake o).plans = s.plans := by
  unfold State.staleTake; dsimp only; repeat' split
  all_goals simp
@[simp] theorem meters_staleTake (o : Outlet) : (s.staleTake o).meters = s.meters := by
  unfold State.staleTake; dsimp only; repeat' split
  all_goals simp
@[simp] theorem dispatcher_staleTake (o : Outlet) : (s.staleTake o).dispatcher = s.dispatcher := by
  unfold State.staleTake; dsimp only; repeat' split
  all_goals simp
@[simp] theorem closures_staleTake (o : Outlet) : (s.staleTake o).closures = s.closures := by
  unfold State.staleTake; dsimp only; repeat' split
  all_goals simp
@[simp] theorem ports_staleTake (o : Outlet) : (s.staleTake o).ports = s.ports := by
  unfold State.staleTake; dsimp only; repeat' split
  all_goals simp
@[simp] theorem pending_staleTake (o : Outlet) : (s.staleTake o).pending = s.pending := by
  unfold State.staleTake; dsimp only; repeat' split
  all_goals simp

/-! ### take -/

@[simp] theorem held_take (o : Outlet) : (s.take o).held = s.held := by
  unfold State.take; repeat' split
  all_goals simp
@[simp] theorem control_take (o : Outlet) : (s.take o).control = s.control := by
  unfold State.take; repeat' split
  all_goals simp
@[simp] theorem clock_take (o : Outlet) : (s.take o).clock = s.clock := by
  unfold State.take; repeat' split
  all_goals simp
@[simp] theorem plans_take (o : Outlet) : (s.take o).plans = s.plans := by
  unfold State.take; repeat' split
  all_goals simp
@[simp] theorem dispatcher_take (o : Outlet) : (s.take o).dispatcher = s.dispatcher := by
  unfold State.take; repeat' split
  all_goals simp
@[simp] theorem closures_take (o : Outlet) : (s.take o).closures = s.closures := by
  unfold State.take; repeat' split
  all_goals simp
@[simp] theorem ports_take (o : Outlet) : (s.take o).ports = s.ports := by
  unfold State.take; repeat' split
  all_goals simp
@[simp] theorem pending_take (o : Outlet) : (s.take o).pending = s.pending := by
  unfold State.take; repeat' split
  all_goals simp

/-! ### takes -/

@[simp] theorem held_takes : (s.takes).held = s.held := 
  foldl_field State.held (State.take) (fun s a => by simp) _ s
@[simp] theorem control_takes : (s.takes).control = s.control := 
  foldl_field State.control (State.take) (fun s a => by simp) _ s
@[simp] theorem clock_takes : (s.takes).clock = s.clock := 
  foldl_field State.clock (State.take) (fun s a => by simp) _ s
@[simp] theorem plans_takes : (s.takes).plans = s.plans := 
  foldl_field State.plans (State.take) (fun s a => by simp) _ s
@[simp] theorem dispatcher_takes : (s.takes).dispatcher = s.dispatcher := 
  foldl_field State.dispatcher (State.take) (fun s a => by simp) _ s
@[simp] theorem closures_takes : (s.takes).closures = s.closures := 
  foldl_field State.closures (State.take) (fun s a => by simp) _ s
@[simp] theorem ports_takes : (s.takes).ports = s.ports := 
  foldl_field State.ports (State.take) (fun s a => by simp) _ s
@[simp] theorem pending_takes : (s.takes).pending = s.pending := 
  foldl_field State.pending (State.take) (fun s a => by simp) _ s

/-! ### fundsStage -/

@[simp] theorem held_fundsStage : (s.fundsStage).held = s.held := 
  foldl_field State.held (State.evaluateFunds) (fun s a => by simp) _ s
@[simp] theorem control_fundsStage : (s.fundsStage).control = s.control := 
  foldl_field State.control (State.evaluateFunds) (fun s a => by simp) _ s
@[simp] theorem clock_fundsStage : (s.fundsStage).clock = s.clock := 
  foldl_field State.clock (State.evaluateFunds) (fun s a => by simp) _ s
@[simp] theorem plans_fundsStage : (s.fundsStage).plans = s.plans := 
  foldl_field State.plans (State.evaluateFunds) (fun s a => by simp) _ s
@[simp] theorem meters_fundsStage : (s.fundsStage).meters = s.meters := 
  foldl_field State.meters (State.evaluateFunds) (fun s a => by simp) _ s
@[simp] theorem line_fundsStage : (s.fundsStage).line = s.line := 
  foldl_field State.line (State.evaluateFunds) (fun s a => by simp) _ s
@[simp] theorem exchanges_fundsStage : (s.fundsStage).exchanges = s.exchanges := 
  foldl_field State.exchanges (State.evaluateFunds) (fun s a => by simp) _ s
@[simp] theorem dispatcher_fundsStage : (s.fundsStage).dispatcher = s.dispatcher := 
  foldl_field State.dispatcher (State.evaluateFunds) (fun s a => by simp) _ s
@[simp] theorem closures_fundsStage : (s.fundsStage).closures = s.closures := 
  foldl_field State.closures (State.evaluateFunds) (fun s a => by simp) _ s
@[simp] theorem ports_fundsStage : (s.fundsStage).ports = s.ports := 
  foldl_field State.ports (State.evaluateFunds) (fun s a => by simp) _ s
@[simp] theorem pending_fundsStage : (s.fundsStage).pending = s.pending := 
  foldl_field State.pending (State.evaluateFunds) (fun s a => by simp) _ s

/-! ### capStage -/

@[simp] theorem held_capStage : (s.capStage).held = s.held := by simp [State.capStage]
@[simp] theorem control_capStage : (s.capStage).control = s.control := by simp [State.capStage]
@[simp] theorem clock_capStage : (s.capStage).clock = s.clock := by simp [State.capStage]
@[simp] theorem plans_capStage : (s.capStage).plans = s.plans := by simp [State.capStage]
@[simp] theorem sessions_capStage : (s.capStage).sessions = s.sessions := by simp [State.capStage]
@[simp] theorem meters_capStage : (s.capStage).meters = s.meters := by simp [State.capStage]
@[simp] theorem line_capStage : (s.capStage).line = s.line := by simp [State.capStage]
@[simp] theorem exchanges_capStage : (s.capStage).exchanges = s.exchanges := by simp [State.capStage]
@[simp] theorem pool_capStage : (s.capStage).pool = s.pool := by simp [State.capStage]
@[simp] theorem closures_capStage : (s.capStage).closures = s.closures := by simp [State.capStage]
@[simp] theorem notices_capStage : (s.capStage).notices = s.notices := by simp [State.capStage]
@[simp] theorem ports_capStage : (s.capStage).ports = s.ports := by simp [State.capStage]
@[simp] theorem pending_capStage : (s.capStage).pending = s.pending := by simp [State.capStage]

/-! ### ceilingStage -/

@[simp] theorem held_ceilingStage : (s.ceilingStage).held = s.held := by simp [State.ceilingStage]
@[simp] theorem control_ceilingStage : (s.ceilingStage).control = s.control := by simp [State.ceilingStage]
@[simp] theorem clock_ceilingStage : (s.ceilingStage).clock = s.clock := by simp [State.ceilingStage]
@[simp] theorem plans_ceilingStage : (s.ceilingStage).plans = s.plans := by simp [State.ceilingStage]
@[simp] theorem sessions_ceilingStage : (s.ceilingStage).sessions = s.sessions := by simp [State.ceilingStage]
@[simp] theorem meters_ceilingStage : (s.ceilingStage).meters = s.meters := by simp [State.ceilingStage]
@[simp] theorem line_ceilingStage : (s.ceilingStage).line = s.line := by simp [State.ceilingStage]
@[simp] theorem exchanges_ceilingStage : (s.ceilingStage).exchanges = s.exchanges := by simp [State.ceilingStage]
@[simp] theorem pool_ceilingStage : (s.ceilingStage).pool = s.pool := by simp [State.ceilingStage]
@[simp] theorem closures_ceilingStage : (s.ceilingStage).closures = s.closures := by simp [State.ceilingStage]
@[simp] theorem notices_ceilingStage : (s.ceilingStage).notices = s.notices := by simp [State.ceilingStage]
@[simp] theorem ports_ceilingStage : (s.ceilingStage).ports = s.ports := by simp [State.ceilingStage]
@[simp] theorem pending_ceilingStage : (s.ceilingStage).pending = s.pending := by simp [State.ceilingStage]

/-! ### grantStage -/

@[simp] theorem held_grantStage : (s.grantStage).held = s.held := by simp [State.grantStage]
@[simp] theorem control_grantStage : (s.grantStage).control = s.control := by simp [State.grantStage]
@[simp] theorem clock_grantStage : (s.grantStage).clock = s.clock := by simp [State.grantStage]
@[simp] theorem plans_grantStage : (s.grantStage).plans = s.plans := by simp [State.grantStage]
@[simp] theorem sessions_grantStage : (s.grantStage).sessions = s.sessions := by simp [State.grantStage]
@[simp] theorem meters_grantStage : (s.grantStage).meters = s.meters := by simp [State.grantStage]
@[simp] theorem line_grantStage : (s.grantStage).line = s.line := by simp [State.grantStage]
@[simp] theorem exchanges_grantStage : (s.grantStage).exchanges = s.exchanges := by simp [State.grantStage]
@[simp] theorem pool_grantStage : (s.grantStage).pool = s.pool := by simp [State.grantStage]
@[simp] theorem closures_grantStage : (s.grantStage).closures = s.closures := by simp [State.grantStage]
@[simp] theorem notices_grantStage : (s.grantStage).notices = s.notices := by simp [State.grantStage]
@[simp] theorem ports_grantStage : (s.grantStage).ports = s.ports := by simp [State.grantStage]
@[simp] theorem pending_grantStage : (s.grantStage).pending = s.pending := by simp [State.grantStage]

/-! ### requestFor -/

@[simp] theorem held_requestMany (o : Outlet) (n : Nat) : (State.requestMany o n s).held = s.held := by
  induction n generalizing s with
  | zero => rfl
  | succ k ih => rw [State.requestMany, ih, held_requestModule]
@[simp] theorem control_requestMany (o : Outlet) (n : Nat) : (State.requestMany o n s).control = s.control := by
  induction n generalizing s with
  | zero => rfl
  | succ k ih => rw [State.requestMany, ih, control_requestModule]
@[simp] theorem clock_requestMany (o : Outlet) (n : Nat) : (State.requestMany o n s).clock = s.clock := by
  induction n generalizing s with
  | zero => rfl
  | succ k ih => rw [State.requestMany, ih, clock_requestModule]
@[simp] theorem plans_requestMany (o : Outlet) (n : Nat) : (State.requestMany o n s).plans = s.plans := by
  induction n generalizing s with
  | zero => rfl
  | succ k ih => rw [State.requestMany, ih, plans_requestModule]
@[simp] theorem sessions_requestMany (o : Outlet) (n : Nat) : (State.requestMany o n s).sessions = s.sessions := by
  induction n generalizing s with
  | zero => rfl
  | succ k ih => rw [State.requestMany, ih, sessions_requestModule]
@[simp] theorem meters_requestMany (o : Outlet) (n : Nat) : (State.requestMany o n s).meters = s.meters := by
  induction n generalizing s with
  | zero => rfl
  | succ k ih => rw [State.requestMany, ih, meters_requestModule]
@[simp] theorem line_requestMany (o : Outlet) (n : Nat) : (State.requestMany o n s).line = s.line := by
  induction n generalizing s with
  | zero => rfl
  | succ k ih => rw [State.requestMany, ih, line_requestModule]
@[simp] theorem exchanges_requestMany (o : Outlet) (n : Nat) : (State.requestMany o n s).exchanges = s.exchanges := by
  induction n generalizing s with
  | zero => rfl
  | succ k ih => rw [State.requestMany, ih, exchanges_requestModule]
@[simp] theorem dispatcher_requestMany (o : Outlet) (n : Nat) : (State.requestMany o n s).dispatcher = s.dispatcher := by
  induction n generalizing s with
  | zero => rfl
  | succ k ih => rw [State.requestMany, ih, dispatcher_requestModule]
@[simp] theorem closures_requestMany (o : Outlet) (n : Nat) : (State.requestMany o n s).closures = s.closures := by
  induction n generalizing s with
  | zero => rfl
  | succ k ih => rw [State.requestMany, ih, closures_requestModule]
@[simp] theorem notices_requestMany (o : Outlet) (n : Nat) : (State.requestMany o n s).notices = s.notices := by
  induction n generalizing s with
  | zero => rfl
  | succ k ih => rw [State.requestMany, ih, notices_requestModule]
@[simp] theorem ports_requestMany (o : Outlet) (n : Nat) : (State.requestMany o n s).ports = s.ports := by
  induction n generalizing s with
  | zero => rfl
  | succ k ih => rw [State.requestMany, ih, ports_requestModule]
@[simp] theorem pending_requestMany (o : Outlet) (n : Nat) : (State.requestMany o n s).pending = s.pending := by
  induction n generalizing s with
  | zero => rfl
  | succ k ih => rw [State.requestMany, ih, pending_requestModule]

@[simp] theorem held_requestFor (c : Claim) : (s.requestFor c).held = s.held := by
  unfold State.requestFor; simp
@[simp] theorem control_requestFor (c : Claim) : (s.requestFor c).control = s.control := by
  unfold State.requestFor; simp
@[simp] theorem clock_requestFor (c : Claim) : (s.requestFor c).clock = s.clock := by
  unfold State.requestFor; simp
@[simp] theorem plans_requestFor (c : Claim) : (s.requestFor c).plans = s.plans := by
  unfold State.requestFor; simp
@[simp] theorem sessions_requestFor (c : Claim) : (s.requestFor c).sessions = s.sessions := by
  unfold State.requestFor; simp
@[simp] theorem meters_requestFor (c : Claim) : (s.requestFor c).meters = s.meters := by
  unfold State.requestFor; simp
@[simp] theorem line_requestFor (c : Claim) : (s.requestFor c).line = s.line := by
  unfold State.requestFor; simp
@[simp] theorem exchanges_requestFor (c : Claim) : (s.requestFor c).exchanges = s.exchanges := by
  unfold State.requestFor; simp
@[simp] theorem dispatcher_requestFor (c : Claim) : (s.requestFor c).dispatcher = s.dispatcher := by
  unfold State.requestFor; simp
@[simp] theorem closures_requestFor (c : Claim) : (s.requestFor c).closures = s.closures := by
  unfold State.requestFor; simp
@[simp] theorem notices_requestFor (c : Claim) : (s.requestFor c).notices = s.notices := by
  unfold State.requestFor; simp
@[simp] theorem ports_requestFor (c : Claim) : (s.requestFor c).ports = s.ports := by
  unfold State.requestFor; simp
@[simp] theorem pending_requestFor (c : Claim) : (s.requestFor c).pending = s.pending := by
  unfold State.requestFor; simp

/-! ### excessFor -/

@[simp] theorem held_excessFor (c : Claim) : (s.excessFor c).held = s.held := by
  unfold State.excessFor; dsimp only; repeat' split
  all_goals simp
@[simp] theorem control_excessFor (c : Claim) : (s.excessFor c).control = s.control := by
  unfold State.excessFor; dsimp only; repeat' split
  all_goals simp
@[simp] theorem clock_excessFor (c : Claim) : (s.excessFor c).clock = s.clock := by
  unfold State.excessFor; dsimp only; repeat' split
  all_goals simp
@[simp] theorem plans_excessFor (c : Claim) : (s.excessFor c).plans = s.plans := by
  unfold State.excessFor; dsimp only; repeat' split
  all_goals simp
@[simp] theorem sessions_excessFor (c : Claim) : (s.excessFor c).sessions = s.sessions := by
  unfold State.excessFor; dsimp only; repeat' split
  all_goals simp
@[simp] theorem meters_excessFor (c : Claim) : (s.excessFor c).meters = s.meters := by
  unfold State.excessFor; dsimp only; repeat' split
  all_goals simp
@[simp] theorem line_excessFor (c : Claim) : (s.excessFor c).line = s.line := by
  unfold State.excessFor; dsimp only; repeat' split
  all_goals simp
@[simp] theorem exchanges_excessFor (c : Claim) : (s.excessFor c).exchanges = s.exchanges := by
  unfold State.excessFor; dsimp only; repeat' split
  all_goals simp
@[simp] theorem closures_excessFor (c : Claim) : (s.excessFor c).closures = s.closures := by
  unfold State.excessFor; dsimp only; repeat' split
  all_goals simp
@[simp] theorem notices_excessFor (c : Claim) : (s.excessFor c).notices = s.notices := by
  unfold State.excessFor; dsimp only; repeat' split
  all_goals simp
@[simp] theorem ports_excessFor (c : Claim) : (s.excessFor c).ports = s.ports := by
  unfold State.excessFor; dsimp only; repeat' split
  all_goals simp
@[simp] theorem pending_excessFor (c : Claim) : (s.excessFor c).pending = s.pending := by
  unfold State.excessFor; dsimp only; repeat' split
  all_goals simp

/-! ### moduleStage -/

@[simp] theorem held_moduleStage : (s.moduleStage).held = s.held := by
  unfold State.moduleStage
  rw [foldl_field State.held State.excessFor (fun s c => by simp), foldl_field State.held State.requestFor (fun s c => by simp)]
@[simp] theorem control_moduleStage : (s.moduleStage).control = s.control := by
  unfold State.moduleStage
  rw [foldl_field State.control State.excessFor (fun s c => by simp), foldl_field State.control State.requestFor (fun s c => by simp)]
@[simp] theorem clock_moduleStage : (s.moduleStage).clock = s.clock := by
  unfold State.moduleStage
  rw [foldl_field State.clock State.excessFor (fun s c => by simp), foldl_field State.clock State.requestFor (fun s c => by simp)]
@[simp] theorem plans_moduleStage : (s.moduleStage).plans = s.plans := by
  unfold State.moduleStage
  rw [foldl_field State.plans State.excessFor (fun s c => by simp), foldl_field State.plans State.requestFor (fun s c => by simp)]
@[simp] theorem sessions_moduleStage : (s.moduleStage).sessions = s.sessions := by
  unfold State.moduleStage
  rw [foldl_field State.sessions State.excessFor (fun s c => by simp), foldl_field State.sessions State.requestFor (fun s c => by simp)]
@[simp] theorem meters_moduleStage : (s.moduleStage).meters = s.meters := by
  unfold State.moduleStage
  rw [foldl_field State.meters State.excessFor (fun s c => by simp), foldl_field State.meters State.requestFor (fun s c => by simp)]
@[simp] theorem line_moduleStage : (s.moduleStage).line = s.line := by
  unfold State.moduleStage
  rw [foldl_field State.line State.excessFor (fun s c => by simp), foldl_field State.line State.requestFor (fun s c => by simp)]
@[simp] theorem exchanges_moduleStage : (s.moduleStage).exchanges = s.exchanges := by
  unfold State.moduleStage
  rw [foldl_field State.exchanges State.excessFor (fun s c => by simp), foldl_field State.exchanges State.requestFor (fun s c => by simp)]
@[simp] theorem closures_moduleStage : (s.moduleStage).closures = s.closures := by
  unfold State.moduleStage
  rw [foldl_field State.closures State.excessFor (fun s c => by simp), foldl_field State.closures State.requestFor (fun s c => by simp)]
@[simp] theorem notices_moduleStage : (s.moduleStage).notices = s.notices := by
  unfold State.moduleStage
  rw [foldl_field State.notices State.excessFor (fun s c => by simp), foldl_field State.notices State.requestFor (fun s c => by simp)]
@[simp] theorem ports_moduleStage : (s.moduleStage).ports = s.ports := by
  unfold State.moduleStage
  rw [foldl_field State.ports State.excessFor (fun s c => by simp), foldl_field State.ports State.requestFor (fun s c => by simp)]
@[simp] theorem pending_moduleStage : (s.moduleStage).pending = s.pending := by
  unfold State.moduleStage
  rw [foldl_field State.pending State.excessFor (fun s c => by simp), foldl_field State.pending State.requestFor (fun s c => by simp)]

/-! ### dispatch -/

@[simp] theorem held_dispatch : (s.dispatch).held = s.held := by simp [State.dispatch]
@[simp] theorem control_dispatch : (s.dispatch).control = s.control := by simp [State.dispatch]
@[simp] theorem clock_dispatch : (s.dispatch).clock = s.clock := by simp [State.dispatch]
@[simp] theorem plans_dispatch : (s.dispatch).plans = s.plans := by simp [State.dispatch]
@[simp] theorem meters_dispatch : (s.dispatch).meters = s.meters := by simp [State.dispatch]
@[simp] theorem line_dispatch : (s.dispatch).line = s.line := by simp [State.dispatch]
@[simp] theorem exchanges_dispatch : (s.dispatch).exchanges = s.exchanges := by simp [State.dispatch]
@[simp] theorem closures_dispatch : (s.dispatch).closures = s.closures := by simp [State.dispatch]
@[simp] theorem ports_dispatch : (s.dispatch).ports = s.ports := by simp [State.dispatch]
@[simp] theorem pending_dispatch : (s.dispatch).pending = s.pending := by simp [State.dispatch]

/-! ### beginOpening -/

@[simp] theorem held_beginOpening : (s.beginOpening).held = s.held := by simp [State.beginOpening]
@[simp] theorem control_beginOpening : (s.beginOpening).control = s.control := by simp [State.beginOpening]
@[simp] theorem clock_beginOpening : (s.beginOpening).clock = s.clock := by simp [State.beginOpening]
@[simp] theorem plans_beginOpening : (s.beginOpening).plans = s.plans := by simp [State.beginOpening]
@[simp] theorem sessions_beginOpening : (s.beginOpening).sessions = s.sessions := by simp [State.beginOpening]
@[simp] theorem meters_beginOpening : (s.beginOpening).meters = s.meters := by simp [State.beginOpening]
@[simp] theorem exchanges_beginOpening : (s.beginOpening).exchanges = s.exchanges := by simp [State.beginOpening]
@[simp] theorem dispatcher_beginOpening : (s.beginOpening).dispatcher = s.dispatcher := by simp [State.beginOpening]
@[simp] theorem pool_beginOpening : (s.beginOpening).pool = s.pool := by simp [State.beginOpening]
@[simp] theorem closures_beginOpening : (s.beginOpening).closures = s.closures := by simp [State.beginOpening]
@[simp] theorem notices_beginOpening : (s.beginOpening).notices = s.notices := by simp [State.beginOpening]
@[simp] theorem ports_beginOpening : (s.beginOpening).ports = s.ports := by simp [State.beginOpening]
@[simp] theorem pending_beginOpening : (s.beginOpening).pending = s.pending := by simp [State.beginOpening]

/-! ### skipPending -/

@[simp] theorem held_skipPending : (s.skipPending).held = s.held := by
  unfold State.skipPending; repeat' split
  all_goals simp
@[simp] theorem control_skipPending : (s.skipPending).control = s.control := by
  unfold State.skipPending; repeat' split
  all_goals simp
@[simp] theorem clock_skipPending : (s.skipPending).clock = s.clock := by
  unfold State.skipPending; repeat' split
  all_goals simp
@[simp] theorem plans_skipPending : (s.skipPending).plans = s.plans := by
  unfold State.skipPending; repeat' split
  all_goals simp
@[simp] theorem sessions_skipPending : (s.skipPending).sessions = s.sessions := by
  unfold State.skipPending; repeat' split
  all_goals simp
@[simp] theorem meters_skipPending : (s.skipPending).meters = s.meters := by
  unfold State.skipPending; repeat' split
  all_goals simp
@[simp] theorem exchanges_skipPending : (s.skipPending).exchanges = s.exchanges := by
  unfold State.skipPending; repeat' split
  all_goals simp
@[simp] theorem dispatcher_skipPending : (s.skipPending).dispatcher = s.dispatcher := by
  unfold State.skipPending; repeat' split
  all_goals simp
@[simp] theorem pool_skipPending : (s.skipPending).pool = s.pool := by
  unfold State.skipPending; repeat' split
  all_goals simp
@[simp] theorem closures_skipPending : (s.skipPending).closures = s.closures := by
  unfold State.skipPending; repeat' split
  all_goals simp
@[simp] theorem ports_skipPending : (s.skipPending).ports = s.ports := by
  unfold State.skipPending; repeat' split
  all_goals simp
@[simp] theorem pending_skipPending : (s.skipPending).pending = s.pending := by
  unfold State.skipPending; repeat' split
  all_goals simp

/-! ### handOver -/

@[simp] theorem held_handOver (w : Bool) : (s.handOver w).held = s.held := by
  unfold State.handOver; dsimp only; repeat' split
  all_goals simp
@[simp] theorem control_handOver (w : Bool) : (s.handOver w).control = s.control := by
  unfold State.handOver; dsimp only; repeat' split
  all_goals simp
@[simp] theorem clock_handOver (w : Bool) : (s.handOver w).clock = s.clock := by
  unfold State.handOver; dsimp only; repeat' split
  all_goals simp
@[simp] theorem plans_handOver (w : Bool) : (s.handOver w).plans = s.plans := by
  unfold State.handOver; dsimp only; repeat' split
  all_goals simp
@[simp] theorem sessions_handOver (w : Bool) : (s.handOver w).sessions = s.sessions := by
  unfold State.handOver; dsimp only; repeat' split
  all_goals simp
@[simp] theorem meters_handOver (w : Bool) : (s.handOver w).meters = s.meters := by
  unfold State.handOver; dsimp only; repeat' split
  all_goals simp
@[simp] theorem exchanges_handOver (w : Bool) : (s.handOver w).exchanges = s.exchanges := by
  unfold State.handOver; dsimp only; repeat' split
  all_goals simp
@[simp] theorem dispatcher_handOver (w : Bool) : (s.handOver w).dispatcher = s.dispatcher := by
  unfold State.handOver; dsimp only; repeat' split
  all_goals simp
@[simp] theorem pool_handOver (w : Bool) : (s.handOver w).pool = s.pool := by
  unfold State.handOver; dsimp only; repeat' split
  all_goals simp
@[simp] theorem closures_handOver (w : Bool) : (s.handOver w).closures = s.closures := by
  unfold State.handOver; dsimp only; repeat' split
  all_goals simp
@[simp] theorem ports_handOver (w : Bool) : (s.handOver w).ports = s.ports := by
  unfold State.handOver; dsimp only; repeat' split
  all_goals simp
@[simp] theorem pending_handOver (w : Bool) : (s.handOver w).pending = s.pending := by
  unfold State.handOver; dsimp only; repeat' split
  all_goals simp

/-! ### rearm -/

@[simp] theorem held_rearm (d : Nat) : (s.rearm d).held = s.held := by simp [State.rearm]
@[simp] theorem clock_rearm (d : Nat) : (s.rearm d).clock = s.clock := by simp [State.rearm]
@[simp] theorem plans_rearm (d : Nat) : (s.rearm d).plans = s.plans := by simp [State.rearm]
@[simp] theorem sessions_rearm (d : Nat) : (s.rearm d).sessions = s.sessions := by simp [State.rearm]
@[simp] theorem meters_rearm (d : Nat) : (s.rearm d).meters = s.meters := by simp [State.rearm]
@[simp] theorem line_rearm (d : Nat) : (s.rearm d).line = s.line := by simp [State.rearm]
@[simp] theorem exchanges_rearm (d : Nat) : (s.rearm d).exchanges = s.exchanges := by simp [State.rearm]
@[simp] theorem dispatcher_rearm (d : Nat) : (s.rearm d).dispatcher = s.dispatcher := by simp [State.rearm]
@[simp] theorem pool_rearm (d : Nat) : (s.rearm d).pool = s.pool := by simp [State.rearm]
@[simp] theorem closures_rearm (d : Nat) : (s.rearm d).closures = s.closures := by simp [State.rearm]
@[simp] theorem notices_rearm (d : Nat) : (s.rearm d).notices = s.notices := by simp [State.rearm]
@[simp] theorem ports_rearm (d : Nat) : (s.rearm d).ports = s.ports := by simp [State.rearm]
@[simp] theorem pending_rearm (d : Nat) : (s.rearm d).pending = s.pending := by simp [State.rearm]

end Sys2Proof.Machine
end

