-- ==== Sys2Proof/Laws/EventFrames.lean ====
section
/-! SUPPORT. What each request's owner and each event leaves: one lemma per field of State that it does not reach. -/

namespace Sys2Proof.Machine

variable (s : State)

@[simp] theorem state_answer (t : Status) (l : List Byte) : (s.answer t l).state = s := rfl

/-! ### answerSwap -/

@[simp] theorem held_answerSwap (p : PortId) : (s.answerSwap p).state.held = s.held := by
  simp only [State.answerSwap, State.answer]; repeat' split
  all_goals simp
@[simp] theorem control_answerSwap (p : PortId) : (s.answerSwap p).state.control = s.control := by
  simp only [State.answerSwap, State.answer]; repeat' split
  all_goals simp
@[simp] theorem clock_answerSwap (p : PortId) : (s.answerSwap p).state.clock = s.clock := by
  simp only [State.answerSwap, State.answer]; repeat' split
  all_goals simp
@[simp] theorem plans_answerSwap (p : PortId) : (s.answerSwap p).state.plans = s.plans := by
  simp only [State.answerSwap, State.answer]; repeat' split
  all_goals simp
@[simp] theorem sessions_answerSwap (p : PortId) : (s.answerSwap p).state.sessions = s.sessions := by
  simp only [State.answerSwap, State.answer]; repeat' split
  all_goals simp
@[simp] theorem meters_answerSwap (p : PortId) : (s.answerSwap p).state.meters = s.meters := by
  simp only [State.answerSwap, State.answer]; repeat' split
  all_goals simp
@[simp] theorem line_answerSwap (p : PortId) : (s.answerSwap p).state.line = s.line := by
  simp only [State.answerSwap, State.answer]; repeat' split
  all_goals simp
@[simp] theorem exchanges_answerSwap (p : PortId) : (s.answerSwap p).state.exchanges = s.exchanges := by
  simp only [State.answerSwap, State.answer]; repeat' split
  all_goals simp
@[simp] theorem dispatcher_answerSwap (p : PortId) : (s.answerSwap p).state.dispatcher = s.dispatcher := by
  simp only [State.answerSwap, State.answer]; repeat' split
  all_goals simp
@[simp] theorem pool_answerSwap (p : PortId) : (s.answerSwap p).state.pool = s.pool := by
  simp only [State.answerSwap, State.answer]; repeat' split
  all_goals simp
@[simp] theorem closures_answerSwap (p : PortId) : (s.answerSwap p).state.closures = s.closures := by
  simp only [State.answerSwap, State.answer]; repeat' split
  all_goals simp
@[simp] theorem ports_answerSwap (p : PortId) : (s.answerSwap p).state.ports = s.ports := by
  simp only [State.answerSwap, State.answer]; repeat' split
  all_goals simp
@[simp] theorem pending_answerSwap (p : PortId) : (s.answerSwap p).state.pending = s.pending := by
  simp only [State.answerSwap, State.answer]; repeat' split
  all_goals simp

/-! ### answerArm -/

@[simp] theorem held_answerArm (b : Byte) (h : Nat) (p c : Byte) (r : Vector Byte 12) : (s.answerArm b h p c r).state.held = s.held := by
  simp only [State.answerArm, State.createSession, State.answer]; repeat' split
  all_goals simp
@[simp] theorem control_answerArm (b : Byte) (h : Nat) (p c : Byte) (r : Vector Byte 12) : (s.answerArm b h p c r).state.control = s.control := by
  simp only [State.answerArm, State.createSession, State.answer]; repeat' split
  all_goals simp
@[simp] theorem clock_answerArm (b : Byte) (h : Nat) (p c : Byte) (r : Vector Byte 12) : (s.answerArm b h p c r).state.clock = s.clock := by
  simp only [State.answerArm, State.createSession, State.answer]; repeat' split
  all_goals simp
@[simp] theorem plans_answerArm (b : Byte) (h : Nat) (p c : Byte) (r : Vector Byte 12) : (s.answerArm b h p c r).state.plans = s.plans := by
  simp only [State.answerArm, State.createSession, State.answer]; repeat' split
  all_goals simp
@[simp] theorem line_answerArm (b : Byte) (h : Nat) (p c : Byte) (r : Vector Byte 12) : (s.answerArm b h p c r).state.line = s.line := by
  simp only [State.answerArm, State.createSession, State.answer]; repeat' split
  all_goals simp
@[simp] theorem exchanges_answerArm (b : Byte) (h : Nat) (p c : Byte) (r : Vector Byte 12) : (s.answerArm b h p c r).state.exchanges = s.exchanges := by
  simp only [State.answerArm, State.createSession, State.answer]; repeat' split
  all_goals simp
@[simp] theorem dispatcher_answerArm (b : Byte) (h : Nat) (p c : Byte) (r : Vector Byte 12) : (s.answerArm b h p c r).state.dispatcher = s.dispatcher := by
  simp only [State.answerArm, State.createSession, State.answer]; repeat' split
  all_goals simp
@[simp] theorem pool_answerArm (b : Byte) (h : Nat) (p c : Byte) (r : Vector Byte 12) : (s.answerArm b h p c r).state.pool = s.pool := by
  simp only [State.answerArm, State.createSession, State.answer]; repeat' split
  all_goals simp
@[simp] theorem closures_answerArm (b : Byte) (h : Nat) (p c : Byte) (r : Vector Byte 12) : (s.answerArm b h p c r).state.closures = s.closures := by
  simp only [State.answerArm, State.createSession, State.answer]; repeat' split
  all_goals simp
@[simp] theorem notices_answerArm (b : Byte) (h : Nat) (p c : Byte) (r : Vector Byte 12) : (s.answerArm b h p c r).state.notices = s.notices := by
  simp only [State.answerArm, State.createSession, State.answer]; repeat' split
  all_goals simp
@[simp] theorem ports_answerArm (b : Byte) (h : Nat) (p c : Byte) (r : Vector Byte 12) : (s.answerArm b h p c r).state.ports = s.ports := by
  simp only [State.answerArm, State.createSession, State.answer]; repeat' split
  all_goals simp
@[simp] theorem pending_answerArm (b : Byte) (h : Nat) (p c : Byte) (r : Vector Byte 12) : (s.answerArm b h p c r).state.pending = s.pending := by
  simp only [State.answerArm, State.createSession, State.answer]; repeat' split
  all_goals simp

/-! ### answerTopup -/

@[simp] theorem held_answerTopup (n a : Nat) : (s.answerTopup n a).state.held = s.held := by
  simp only [State.answerTopup, State.answer]; repeat' split
  all_goals simp
@[simp] theorem control_answerTopup (n a : Nat) : (s.answerTopup n a).state.control = s.control := by
  simp only [State.answerTopup, State.answer]; repeat' split
  all_goals simp
@[simp] theorem clock_answerTopup (n a : Nat) : (s.answerTopup n a).state.clock = s.clock := by
  simp only [State.answerTopup, State.answer]; repeat' split
  all_goals simp
@[simp] theorem plans_answerTopup (n a : Nat) : (s.answerTopup n a).state.plans = s.plans := by
  simp only [State.answerTopup, State.answer]; repeat' split
  all_goals simp
@[simp] theorem meters_answerTopup (n a : Nat) : (s.answerTopup n a).state.meters = s.meters := by
  simp only [State.answerTopup, State.answer]; repeat' split
  all_goals simp
@[simp] theorem line_answerTopup (n a : Nat) : (s.answerTopup n a).state.line = s.line := by
  simp only [State.answerTopup, State.answer]; repeat' split
  all_goals simp
@[simp] theorem exchanges_answerTopup (n a : Nat) : (s.answerTopup n a).state.exchanges = s.exchanges := by
  simp only [State.answerTopup, State.answer]; repeat' split
  all_goals simp
@[simp] theorem dispatcher_answerTopup (n a : Nat) : (s.answerTopup n a).state.dispatcher = s.dispatcher := by
  simp only [State.answerTopup, State.answer]; repeat' split
  all_goals simp
@[simp] theorem closures_answerTopup (n a : Nat) : (s.answerTopup n a).state.closures = s.closures := by
  simp only [State.answerTopup, State.answer]; repeat' split
  all_goals simp
@[simp] theorem ports_answerTopup (n a : Nat) : (s.answerTopup n a).state.ports = s.ports := by
  simp only [State.answerTopup, State.answer]; repeat' split
  all_goals simp
@[simp] theorem pending_answerTopup (n a : Nat) : (s.answerTopup n a).state.pending = s.pending := by
  simp only [State.answerTopup, State.answer]; repeat' split
  all_goals simp

/-! ### answerStop -/

@[simp] theorem held_answerStop (n : Nat) : (s.answerStop n).state.held = s.held := by
  simp only [State.answerStop, State.answer]; repeat' split
  all_goals simp
@[simp] theorem control_answerStop (n : Nat) : (s.answerStop n).state.control = s.control := by
  simp only [State.answerStop, State.answer]; repeat' split
  all_goals simp
@[simp] theorem clock_answerStop (n : Nat) : (s.answerStop n).state.clock = s.clock := by
  simp only [State.answerStop, State.answer]; repeat' split
  all_goals simp
@[simp] theorem plans_answerStop (n : Nat) : (s.answerStop n).state.plans = s.plans := by
  simp only [State.answerStop, State.answer]; repeat' split
  all_goals simp
@[simp] theorem meters_answerStop (n : Nat) : (s.answerStop n).state.meters = s.meters := by
  simp only [State.answerStop, State.answer]; repeat' split
  all_goals simp
@[simp] theorem line_answerStop (n : Nat) : (s.answerStop n).state.line = s.line := by
  simp only [State.answerStop, State.answer]; repeat' split
  all_goals simp
@[simp] theorem exchanges_answerStop (n : Nat) : (s.answerStop n).state.exchanges = s.exchanges := by
  simp only [State.answerStop, State.answer]; repeat' split
  all_goals simp
@[simp] theorem dispatcher_answerStop (n : Nat) : (s.answerStop n).state.dispatcher = s.dispatcher := by
  simp only [State.answerStop, State.answer]; repeat' split
  all_goals simp
@[simp] theorem closures_answerStop (n : Nat) : (s.answerStop n).state.closures = s.closures := by
  simp only [State.answerStop, State.answer]; repeat' split
  all_goals simp
@[simp] theorem ports_answerStop (n : Nat) : (s.answerStop n).state.ports = s.ports := by
  simp only [State.answerStop, State.answer]; repeat' split
  all_goals simp
@[simp] theorem pending_answerStop (n : Nat) : (s.answerStop n).state.pending = s.pending := by
  simp only [State.answerStop, State.answer]; repeat' split
  all_goals simp

/-! ### answerQuery -/

@[simp] theorem held_answerQuery (b : Byte) : (s.answerQuery b).state.held = s.held := by
  simp only [State.answerQuery, State.answer]; repeat' split
  all_goals simp
@[simp] theorem control_answerQuery (b : Byte) : (s.answerQuery b).state.control = s.control := by
  simp only [State.answerQuery, State.answer]; repeat' split
  all_goals simp
@[simp] theorem clock_answerQuery (b : Byte) : (s.answerQuery b).state.clock = s.clock := by
  simp only [State.answerQuery, State.answer]; repeat' split
  all_goals simp
@[simp] theorem plans_answerQuery (b : Byte) : (s.answerQuery b).state.plans = s.plans := by
  simp only [State.answerQuery, State.answer]; repeat' split
  all_goals simp
@[simp] theorem sessions_answerQuery (b : Byte) : (s.answerQuery b).state.sessions = s.sessions := by
  simp only [State.answerQuery, State.answer]; repeat' split
  all_goals simp
@[simp] theorem meters_answerQuery (b : Byte) : (s.answerQuery b).state.meters = s.meters := by
  simp only [State.answerQuery, State.answer]; repeat' split
  all_goals simp
@[simp] theorem line_answerQuery (b : Byte) : (s.answerQuery b).state.line = s.line := by
  simp only [State.answerQuery, State.answer]; repeat' split
  all_goals simp
@[simp] theorem exchanges_answerQuery (b : Byte) : (s.answerQuery b).state.exchanges = s.exchanges := by
  simp only [State.answerQuery, State.answer]; repeat' split
  all_goals simp
@[simp] theorem dispatcher_answerQuery (b : Byte) : (s.answerQuery b).state.dispatcher = s.dispatcher := by
  simp only [State.answerQuery, State.answer]; repeat' split
  all_goals simp
@[simp] theorem pool_answerQuery (b : Byte) : (s.answerQuery b).state.pool = s.pool := by
  simp only [State.answerQuery, State.answer]; repeat' split
  all_goals simp
@[simp] theorem closures_answerQuery (b : Byte) : (s.answerQuery b).state.closures = s.closures := by
  simp only [State.answerQuery, State.answer]; repeat' split
  all_goals simp
@[simp] theorem notices_answerQuery (b : Byte) : (s.answerQuery b).state.notices = s.notices := by
  simp only [State.answerQuery, State.answer]; repeat' split
  all_goals simp
@[simp] theorem ports_answerQuery (b : Byte) : (s.answerQuery b).state.ports = s.ports := by
  simp only [State.answerQuery, State.answer]; repeat' split
  all_goals simp
@[simp] theorem pending_answerQuery (b : Byte) : (s.answerQuery b).state.pending = s.pending := by
  simp only [State.answerQuery, State.answer]; repeat' split
  all_goals simp

/-! ### answerPeek -/

@[simp] theorem held_answerPeek : (s.answerPeek).state.held = s.held := by
  simp only [State.answerPeek, State.answer]; repeat' split
  all_goals simp
@[simp] theorem control_answerPeek : (s.answerPeek).state.control = s.control := by
  simp only [State.answerPeek, State.answer]; repeat' split
  all_goals simp
@[simp] theorem clock_answerPeek : (s.answerPeek).state.clock = s.clock := by
  simp only [State.answerPeek, State.answer]; repeat' split
  all_goals simp
@[simp] theorem plans_answerPeek : (s.answerPeek).state.plans = s.plans := by
  simp only [State.answerPeek, State.answer]; repeat' split
  all_goals simp
@[simp] theorem sessions_answerPeek : (s.answerPeek).state.sessions = s.sessions := by
  simp only [State.answerPeek, State.answer]; repeat' split
  all_goals simp
@[simp] theorem meters_answerPeek : (s.answerPeek).state.meters = s.meters := by
  simp only [State.answerPeek, State.answer]; repeat' split
  all_goals simp
@[simp] theorem line_answerPeek : (s.answerPeek).state.line = s.line := by
  simp only [State.answerPeek, State.answer]; repeat' split
  all_goals simp
@[simp] theorem exchanges_answerPeek : (s.answerPeek).state.exchanges = s.exchanges := by
  simp only [State.answerPeek, State.answer]; repeat' split
  all_goals simp
@[simp] theorem dispatcher_answerPeek : (s.answerPeek).state.dispatcher = s.dispatcher := by
  simp only [State.answerPeek, State.answer]; repeat' split
  all_goals simp
@[simp] theorem pool_answerPeek : (s.answerPeek).state.pool = s.pool := by
  simp only [State.answerPeek, State.answer]; repeat' split
  all_goals simp
@[simp] theorem closures_answerPeek : (s.answerPeek).state.closures = s.closures := by
  simp only [State.answerPeek, State.answer]; repeat' split
  all_goals simp
@[simp] theorem notices_answerPeek : (s.answerPeek).state.notices = s.notices := by
  simp only [State.answerPeek, State.answer]; repeat' split
  all_goals simp
@[simp] theorem ports_answerPeek : (s.answerPeek).state.ports = s.ports := by
  simp only [State.answerPeek, State.answer]; repeat' split
  all_goals simp
@[simp] theorem pending_answerPeek : (s.answerPeek).state.pending = s.pending := by
  simp only [State.answerPeek, State.answer]; repeat' split
  all_goals simp

/-! ### answerRelease -/

@[simp] theorem held_answerRelease (n : Nat) : (s.answerRelease n).state.held = s.held := by
  simp only [State.answerRelease, State.admitWaiter, State.answer]; repeat' split
  all_goals simp
@[simp] theorem control_answerRelease (n : Nat) : (s.answerRelease n).state.control = s.control := by
  simp only [State.answerRelease, State.admitWaiter, State.answer]; repeat' split
  all_goals simp
@[simp] theorem clock_answerRelease (n : Nat) : (s.answerRelease n).state.clock = s.clock := by
  simp only [State.answerRelease, State.admitWaiter, State.answer]; repeat' split
  all_goals simp
@[simp] theorem plans_answerRelease (n : Nat) : (s.answerRelease n).state.plans = s.plans := by
  simp only [State.answerRelease, State.admitWaiter, State.answer]; repeat' split
  all_goals simp
@[simp] theorem meters_answerRelease (n : Nat) : (s.answerRelease n).state.meters = s.meters := by
  simp only [State.answerRelease, State.admitWaiter, State.answer]; repeat' split
  all_goals simp
@[simp] theorem line_answerRelease (n : Nat) : (s.answerRelease n).state.line = s.line := by
  simp only [State.answerRelease, State.admitWaiter, State.answer]; repeat' split
  all_goals simp
@[simp] theorem exchanges_answerRelease (n : Nat) : (s.answerRelease n).state.exchanges = s.exchanges := by
  simp only [State.answerRelease, State.admitWaiter, State.answer]; repeat' split
  all_goals simp
@[simp] theorem dispatcher_answerRelease (n : Nat) : (s.answerRelease n).state.dispatcher = s.dispatcher := by
  simp only [State.answerRelease, State.admitWaiter, State.answer]; repeat' split
  all_goals simp
@[simp] theorem pool_answerRelease (n : Nat) : (s.answerRelease n).state.pool = s.pool := by
  simp only [State.answerRelease, State.admitWaiter, State.answer]; repeat' split
  all_goals simp
@[simp] theorem ports_answerRelease (n : Nat) : (s.answerRelease n).state.ports = s.ports := by
  simp only [State.answerRelease, State.admitWaiter, State.answer]; repeat' split
  all_goals simp
@[simp] theorem pending_answerRelease (n : Nat) : (s.answerRelease n).state.pending = s.pending := by
  simp only [State.answerRelease, State.admitWaiter, State.answer]; repeat' split
  all_goals simp

/-! ### answerWritePlan -/

@[simp] theorem held_answerWritePlan (b : Byte) (f i g c : Nat) (l : List Byte) : (s.answerWritePlan b f i g c l).state.held = s.held := by
  simp only [State.answerWritePlan, State.answer]; repeat' split
  all_goals simp
@[simp] theorem control_answerWritePlan (b : Byte) (f i g c : Nat) (l : List Byte) : (s.answerWritePlan b f i g c l).state.control = s.control := by
  simp only [State.answerWritePlan, State.answer]; repeat' split
  all_goals simp
@[simp] theorem clock_answerWritePlan (b : Byte) (f i g c : Nat) (l : List Byte) : (s.answerWritePlan b f i g c l).state.clock = s.clock := by
  simp only [State.answerWritePlan, State.answer]; repeat' split
  all_goals simp
@[simp] theorem sessions_answerWritePlan (b : Byte) (f i g c : Nat) (l : List Byte) : (s.answerWritePlan b f i g c l).state.sessions = s.sessions := by
  simp only [State.answerWritePlan, State.answer]; repeat' split
  all_goals simp
@[simp] theorem meters_answerWritePlan (b : Byte) (f i g c : Nat) (l : List Byte) : (s.answerWritePlan b f i g c l).state.meters = s.meters := by
  simp only [State.answerWritePlan, State.answer]; repeat' split
  all_goals simp
@[simp] theorem line_answerWritePlan (b : Byte) (f i g c : Nat) (l : List Byte) : (s.answerWritePlan b f i g c l).state.line = s.line := by
  simp only [State.answerWritePlan, State.answer]; repeat' split
  all_goals simp
@[simp] theorem exchanges_answerWritePlan (b : Byte) (f i g c : Nat) (l : List Byte) : (s.answerWritePlan b f i g c l).state.exchanges = s.exchanges := by
  simp only [State.answerWritePlan, State.answer]; repeat' split
  all_goals simp
@[simp] theorem dispatcher_answerWritePlan (b : Byte) (f i g c : Nat) (l : List Byte) : (s.answerWritePlan b f i g c l).state.dispatcher = s.dispatcher := by
  simp only [State.answerWritePlan, State.answer]; repeat' split
  all_goals simp
@[simp] theorem pool_answerWritePlan (b : Byte) (f i g c : Nat) (l : List Byte) : (s.answerWritePlan b f i g c l).state.pool = s.pool := by
  simp only [State.answerWritePlan, State.answer]; repeat' split
  all_goals simp
@[simp] theorem closures_answerWritePlan (b : Byte) (f i g c : Nat) (l : List Byte) : (s.answerWritePlan b f i g c l).state.closures = s.closures := by
  simp only [State.answerWritePlan, State.answer]; repeat' split
  all_goals simp
@[simp] theorem notices_answerWritePlan (b : Byte) (f i g c : Nat) (l : List Byte) : (s.answerWritePlan b f i g c l).state.notices = s.notices := by
  simp only [State.answerWritePlan, State.answer]; repeat' split
  all_goals simp
@[simp] theorem ports_answerWritePlan (b : Byte) (f i g c : Nat) (l : List Byte) : (s.answerWritePlan b f i g c l).state.ports = s.ports := by
  simp only [State.answerWritePlan, State.answer]; repeat' split
  all_goals simp
@[simp] theorem pending_answerWritePlan (b : Byte) (f i g c : Nat) (l : List Byte) : (s.answerWritePlan b f i g c l).state.pending = s.pending := by
  simp only [State.answerWritePlan, State.answer]; repeat' split
  all_goals simp

/-! ### answerReadPlan -/

@[simp] theorem held_answerReadPlan (b : Byte) : (s.answerReadPlan b).state.held = s.held := by
  simp only [State.answerReadPlan, State.answer]; repeat' split
  all_goals simp
@[simp] theorem control_answerReadPlan (b : Byte) : (s.answerReadPlan b).state.control = s.control := by
  simp only [State.answerReadPlan, State.answer]; repeat' split
  all_goals simp
@[simp] theorem clock_answerReadPlan (b : Byte) : (s.answerReadPlan b).state.clock = s.clock := by
  simp only [State.answerReadPlan, State.answer]; repeat' split
  all_goals simp
@[simp] theorem plans_answerReadPlan (b : Byte) : (s.answerReadPlan b).state.plans = s.plans := by
  simp only [State.answerReadPlan, State.answer]; repeat' split
  all_goals simp
@[simp] theorem sessions_answerReadPlan (b : Byte) : (s.answerReadPlan b).state.sessions = s.sessions := by
  simp only [State.answerReadPlan, State.answer]; repeat' split
  all_goals simp
@[simp] theorem meters_answerReadPlan (b : Byte) : (s.answerReadPlan b).state.meters = s.meters := by
  simp only [State.answerReadPlan, State.answer]; repeat' split
  all_goals simp
@[simp] theorem line_answerReadPlan (b : Byte) : (s.answerReadPlan b).state.line = s.line := by
  simp only [State.answerReadPlan, State.answer]; repeat' split
  all_goals simp
@[simp] theorem exchanges_answerReadPlan (b : Byte) : (s.answerReadPlan b).state.exchanges = s.exchanges := by
  simp only [State.answerReadPlan, State.answer]; repeat' split
  all_goals simp
@[simp] theorem dispatcher_answerReadPlan (b : Byte) : (s.answerReadPlan b).state.dispatcher = s.dispatcher := by
  simp only [State.answerReadPlan, State.answer]; repeat' split
  all_goals simp
@[simp] theorem pool_answerReadPlan (b : Byte) : (s.answerReadPlan b).state.pool = s.pool := by
  simp only [State.answerReadPlan, State.answer]; repeat' split
  all_goals simp
@[simp] theorem closures_answerReadPlan (b : Byte) : (s.answerReadPlan b).state.closures = s.closures := by
  simp only [State.answerReadPlan, State.answer]; repeat' split
  all_goals simp
@[simp] theorem notices_answerReadPlan (b : Byte) : (s.answerReadPlan b).state.notices = s.notices := by
  simp only [State.answerReadPlan, State.answer]; repeat' split
  all_goals simp
@[simp] theorem ports_answerReadPlan (b : Byte) : (s.answerReadPlan b).state.ports = s.ports := by
  simp only [State.answerReadPlan, State.answer]; repeat' split
  all_goals simp
@[simp] theorem pending_answerReadPlan (b : Byte) : (s.answerReadPlan b).state.pending = s.pending := by
  simp only [State.answerReadPlan, State.answer]; repeat' split
  all_goals simp

/-! ### answerInvalidatePlan -/

@[simp] theorem held_answerInvalidatePlan (b : Byte) : (s.answerInvalidatePlan b).state.held = s.held := by
  simp only [State.answerInvalidatePlan, State.answer]; repeat' split
  all_goals simp
@[simp] theorem control_answerInvalidatePlan (b : Byte) : (s.answerInvalidatePlan b).state.control = s.control := by
  simp only [State.answerInvalidatePlan, State.answer]; repeat' split
  all_goals simp
@[simp] theorem clock_answerInvalidatePlan (b : Byte) : (s.answerInvalidatePlan b).state.clock = s.clock := by
  simp only [State.answerInvalidatePlan, State.answer]; repeat' split
  all_goals simp
@[simp] theorem sessions_answerInvalidatePlan (b : Byte) : (s.answerInvalidatePlan b).state.sessions = s.sessions := by
  simp only [State.answerInvalidatePlan, State.answer]; repeat' split
  all_goals simp
@[simp] theorem meters_answerInvalidatePlan (b : Byte) : (s.answerInvalidatePlan b).state.meters = s.meters := by
  simp only [State.answerInvalidatePlan, State.answer]; repeat' split
  all_goals simp
@[simp] theorem line_answerInvalidatePlan (b : Byte) : (s.answerInvalidatePlan b).state.line = s.line := by
  simp only [State.answerInvalidatePlan, State.answer]; repeat' split
  all_goals simp
@[simp] theorem exchanges_answerInvalidatePlan (b : Byte) : (s.answerInvalidatePlan b).state.exchanges = s.exchanges := by
  simp only [State.answerInvalidatePlan, State.answer]; repeat' split
  all_goals simp
@[simp] theorem dispatcher_answerInvalidatePlan (b : Byte) : (s.answerInvalidatePlan b).state.dispatcher = s.dispatcher := by
  simp only [State.answerInvalidatePlan, State.answer]; repeat' split
  all_goals simp
@[simp] theorem pool_answerInvalidatePlan (b : Byte) : (s.answerInvalidatePlan b).state.pool = s.pool := by
  simp only [State.answerInvalidatePlan, State.answer]; repeat' split
  all_goals simp
@[simp] theorem closures_answerInvalidatePlan (b : Byte) : (s.answerInvalidatePlan b).state.closures = s.closures := by
  simp only [State.answerInvalidatePlan, State.answer]; repeat' split
  all_goals simp
@[simp] theorem notices_answerInvalidatePlan (b : Byte) : (s.answerInvalidatePlan b).state.notices = s.notices := by
  simp only [State.answerInvalidatePlan, State.answer]; repeat' split
  all_goals simp
@[simp] theorem ports_answerInvalidatePlan (b : Byte) : (s.answerInvalidatePlan b).state.ports = s.ports := by
  simp only [State.answerInvalidatePlan, State.answer]; repeat' split
  all_goals simp
@[simp] theorem pending_answerInvalidatePlan (b : Byte) : (s.answerInvalidatePlan b).state.pending = s.pending := by
  simp only [State.answerInvalidatePlan, State.answer]; repeat' split
  all_goals simp

/-! ### answerSetCap -/

@[simp] theorem held_answerSetCap (c v : Nat) : (s.answerSetCap c v).state.held = s.held := by
  simp only [State.answerSetCap, State.answer]; repeat' split
  all_goals simp
@[simp] theorem control_answerSetCap (c v : Nat) : (s.answerSetCap c v).state.control = s.control := by
  simp only [State.answerSetCap, State.answer]; repeat' split
  all_goals simp
@[simp] theorem clock_answerSetCap (c v : Nat) : (s.answerSetCap c v).state.clock = s.clock := by
  simp only [State.answerSetCap, State.answer]; repeat' split
  all_goals simp
@[simp] theorem plans_answerSetCap (c v : Nat) : (s.answerSetCap c v).state.plans = s.plans := by
  simp only [State.answerSetCap, State.answer]; repeat' split
  all_goals simp
@[simp] theorem sessions_answerSetCap (c v : Nat) : (s.answerSetCap c v).state.sessions = s.sessions := by
  simp only [State.answerSetCap, State.answer]; repeat' split
  all_goals simp
@[simp] theorem meters_answerSetCap (c v : Nat) : (s.answerSetCap c v).state.meters = s.meters := by
  simp only [State.answerSetCap, State.answer]; repeat' split
  all_goals simp
@[simp] theorem line_answerSetCap (c v : Nat) : (s.answerSetCap c v).state.line = s.line := by
  simp only [State.answerSetCap, State.answer]; repeat' split
  all_goals simp
@[simp] theorem exchanges_answerSetCap (c v : Nat) : (s.answerSetCap c v).state.exchanges = s.exchanges := by
  simp only [State.answerSetCap, State.answer]; repeat' split
  all_goals simp
@[simp] theorem pool_answerSetCap (c v : Nat) : (s.answerSetCap c v).state.pool = s.pool := by
  simp only [State.answerSetCap, State.answer]; repeat' split
  all_goals simp
@[simp] theorem closures_answerSetCap (c v : Nat) : (s.answerSetCap c v).state.closures = s.closures := by
  simp only [State.answerSetCap, State.answer]; repeat' split
  all_goals simp
@[simp] theorem notices_answerSetCap (c v : Nat) : (s.answerSetCap c v).state.notices = s.notices := by
  simp only [State.answerSetCap, State.answer]; repeat' split
  all_goals simp
@[simp] theorem ports_answerSetCap (c v : Nat) : (s.answerSetCap c v).state.ports = s.ports := by
  simp only [State.answerSetCap, State.answer]; repeat' split
  all_goals simp
@[simp] theorem pending_answerSetCap (c v : Nat) : (s.answerSetCap c v).state.pending = s.pending := by
  simp only [State.answerSetCap, State.answer]; repeat' split
  all_goals simp

/-! ### answerTimeRef -/

@[simp] theorem held_answerTimeRef (r : Nat) : (s.answerTimeRef r).state.held = s.held := by
  simp only [State.answerTimeRef, State.referenceFlags, State.flagLive, State.answer]; repeat' split
  all_goals simp
@[simp] theorem control_answerTimeRef (r : Nat) : (s.answerTimeRef r).state.control = s.control := by
  simp only [State.answerTimeRef, State.referenceFlags, State.flagLive, State.answer]; repeat' split
  all_goals simp
@[simp] theorem plans_answerTimeRef (r : Nat) : (s.answerTimeRef r).state.plans = s.plans := by
  simp only [State.answerTimeRef, State.referenceFlags, State.flagLive, State.answer]; repeat' split
  all_goals simp
@[simp] theorem meters_answerTimeRef (r : Nat) : (s.answerTimeRef r).state.meters = s.meters := by
  simp only [State.answerTimeRef, State.referenceFlags, State.flagLive, State.answer]; repeat' split
  all_goals simp
@[simp] theorem line_answerTimeRef (r : Nat) : (s.answerTimeRef r).state.line = s.line := by
  simp only [State.answerTimeRef, State.referenceFlags, State.flagLive, State.answer]; repeat' split
  all_goals simp
@[simp] theorem exchanges_answerTimeRef (r : Nat) : (s.answerTimeRef r).state.exchanges = s.exchanges := by
  simp only [State.answerTimeRef, State.referenceFlags, State.flagLive, State.answer]; repeat' split
  all_goals simp
@[simp] theorem dispatcher_answerTimeRef (r : Nat) : (s.answerTimeRef r).state.dispatcher = s.dispatcher := by
  simp only [State.answerTimeRef, State.referenceFlags, State.flagLive, State.answer]; repeat' split
  all_goals simp
@[simp] theorem pool_answerTimeRef (r : Nat) : (s.answerTimeRef r).state.pool = s.pool := by
  simp only [State.answerTimeRef, State.referenceFlags, State.flagLive, State.answer]; repeat' split
  all_goals simp
@[simp] theorem closures_answerTimeRef (r : Nat) : (s.answerTimeRef r).state.closures = s.closures := by
  simp only [State.answerTimeRef, State.referenceFlags, State.flagLive, State.answer]; repeat' split
  all_goals simp
@[simp] theorem ports_answerTimeRef (r : Nat) : (s.answerTimeRef r).state.ports = s.ports := by
  simp only [State.answerTimeRef, State.referenceFlags, State.flagLive, State.answer]; repeat' split
  all_goals simp
@[simp] theorem pending_answerTimeRef (r : Nat) : (s.answerTimeRef r).state.pending = s.pending := by
  simp only [State.answerTimeRef, State.referenceFlags, State.flagLive, State.answer]; repeat' split
  all_goals simp

/-! ### answerConfigWrite -/

@[simp] theorem held_answerConfigWrite (i x : Byte) (v : BitVec 32) : (s.answerConfigWrite i x v).state.held = s.held := by
  simp only [State.answerConfigWrite, State.answer]; repeat' split
  all_goals simp
@[simp] theorem clock_answerConfigWrite (i x : Byte) (v : BitVec 32) : (s.answerConfigWrite i x v).state.clock = s.clock := by
  simp only [State.answerConfigWrite, State.answer]; repeat' split
  all_goals simp
@[simp] theorem plans_answerConfigWrite (i x : Byte) (v : BitVec 32) : (s.answerConfigWrite i x v).state.plans = s.plans := by
  simp only [State.answerConfigWrite, State.answer]; repeat' split
  all_goals simp
@[simp] theorem sessions_answerConfigWrite (i x : Byte) (v : BitVec 32) : (s.answerConfigWrite i x v).state.sessions = s.sessions := by
  simp only [State.answerConfigWrite, State.answer]; repeat' split
  all_goals simp
@[simp] theorem meters_answerConfigWrite (i x : Byte) (v : BitVec 32) : (s.answerConfigWrite i x v).state.meters = s.meters := by
  simp only [State.answerConfigWrite, State.answer]; repeat' split
  all_goals simp
@[simp] theorem line_answerConfigWrite (i x : Byte) (v : BitVec 32) : (s.answerConfigWrite i x v).state.line = s.line := by
  simp only [State.answerConfigWrite, State.answer]; repeat' split
  all_goals simp
@[simp] theorem exchanges_answerConfigWrite (i x : Byte) (v : BitVec 32) : (s.answerConfigWrite i x v).state.exchanges = s.exchanges := by
  simp only [State.answerConfigWrite, State.answer]; repeat' split
  all_goals simp
@[simp] theorem dispatcher_answerConfigWrite (i x : Byte) (v : BitVec 32) : (s.answerConfigWrite i x v).state.dispatcher = s.dispatcher := by
  simp only [State.answerConfigWrite, State.answer]; repeat' split
  all_goals simp
@[simp] theorem pool_answerConfigWrite (i x : Byte) (v : BitVec 32) : (s.answerConfigWrite i x v).state.pool = s.pool := by
  simp only [State.answerConfigWrite, State.answer]; repeat' split
  all_goals simp
@[simp] theorem closures_answerConfigWrite (i x : Byte) (v : BitVec 32) : (s.answerConfigWrite i x v).state.closures = s.closures := by
  simp only [State.answerConfigWrite, State.answer]; repeat' split
  all_goals simp
@[simp] theorem notices_answerConfigWrite (i x : Byte) (v : BitVec 32) : (s.answerConfigWrite i x v).state.notices = s.notices := by
  simp only [State.answerConfigWrite, State.answer]; repeat' split
  all_goals simp
@[simp] theorem ports_answerConfigWrite (i x : Byte) (v : BitVec 32) : (s.answerConfigWrite i x v).state.ports = s.ports := by
  simp only [State.answerConfigWrite, State.answer]; repeat' split
  all_goals simp
@[simp] theorem pending_answerConfigWrite (i x : Byte) (v : BitVec 32) : (s.answerConfigWrite i x v).state.pending = s.pending := by
  simp only [State.answerConfigWrite, State.answer]; repeat' split
  all_goals simp

/-! ### answerConfigRead -/

@[simp] theorem held_answerConfigRead (i x : Byte) : (s.answerConfigRead i x).state.held = s.held := by
  simp only [State.answerConfigRead, State.answer]; repeat' split
  all_goals simp
@[simp] theorem control_answerConfigRead (i x : Byte) : (s.answerConfigRead i x).state.control = s.control := by
  simp only [State.answerConfigRead, State.answer]; repeat' split
  all_goals simp
@[simp] theorem clock_answerConfigRead (i x : Byte) : (s.answerConfigRead i x).state.clock = s.clock := by
  simp only [State.answerConfigRead, State.answer]; repeat' split
  all_goals simp
@[simp] theorem plans_answerConfigRead (i x : Byte) : (s.answerConfigRead i x).state.plans = s.plans := by
  simp only [State.answerConfigRead, State.answer]; repeat' split
  all_goals simp
@[simp] theorem sessions_answerConfigRead (i x : Byte) : (s.answerConfigRead i x).state.sessions = s.sessions := by
  simp only [State.answerConfigRead, State.answer]; repeat' split
  all_goals simp
@[simp] theorem meters_answerConfigRead (i x : Byte) : (s.answerConfigRead i x).state.meters = s.meters := by
  simp only [State.answerConfigRead, State.answer]; repeat' split
  all_goals simp
@[simp] theorem line_answerConfigRead (i x : Byte) : (s.answerConfigRead i x).state.line = s.line := by
  simp only [State.answerConfigRead, State.answer]; repeat' split
  all_goals simp
@[simp] theorem exchanges_answerConfigRead (i x : Byte) : (s.answerConfigRead i x).state.exchanges = s.exchanges := by
  simp only [State.answerConfigRead, State.answer]; repeat' split
  all_goals simp
@[simp] theorem dispatcher_answerConfigRead (i x : Byte) : (s.answerConfigRead i x).state.dispatcher = s.dispatcher := by
  simp only [State.answerConfigRead, State.answer]; repeat' split
  all_goals simp
@[simp] theorem pool_answerConfigRead (i x : Byte) : (s.answerConfigRead i x).state.pool = s.pool := by
  simp only [State.answerConfigRead, State.answer]; repeat' split
  all_goals simp
@[simp] theorem closures_answerConfigRead (i x : Byte) : (s.answerConfigRead i x).state.closures = s.closures := by
  simp only [State.answerConfigRead, State.answer]; repeat' split
  all_goals simp
@[simp] theorem notices_answerConfigRead (i x : Byte) : (s.answerConfigRead i x).state.notices = s.notices := by
  simp only [State.answerConfigRead, State.answer]; repeat' split
  all_goals simp
@[simp] theorem ports_answerConfigRead (i x : Byte) : (s.answerConfigRead i x).state.ports = s.ports := by
  simp only [State.answerConfigRead, State.answer]; repeat' split
  all_goals simp
@[simp] theorem pending_answerConfigRead (i x : Byte) : (s.answerConfigRead i x).state.pending = s.pending := by
  simp only [State.answerConfigRead, State.answer]; repeat' split
  all_goals simp

/-! ### answerStartPark -/

@[simp] theorem held_answerStartPark : (s.answerStartPark).state.held = s.held := by
  simp only [State.answerStartPark, State.startUp, State.answer]; repeat' split
  all_goals simp
@[simp] theorem clock_answerStartPark : (s.answerStartPark).state.clock = s.clock := by
  simp only [State.answerStartPark, State.startUp, State.answer]; repeat' split
  all_goals simp
@[simp] theorem plans_answerStartPark : (s.answerStartPark).state.plans = s.plans := by
  simp only [State.answerStartPark, State.startUp, State.answer]; repeat' split
  all_goals simp
@[simp] theorem meters_answerStartPark : (s.answerStartPark).state.meters = s.meters := by
  simp only [State.answerStartPark, State.startUp, State.answer]; repeat' split
  all_goals simp
@[simp] theorem closures_answerStartPark : (s.answerStartPark).state.closures = s.closures := by
  simp only [State.answerStartPark, State.startUp, State.answer]; repeat' split
  all_goals simp
@[simp] theorem notices_answerStartPark : (s.answerStartPark).state.notices = s.notices := by
  simp only [State.answerStartPark, State.startUp, State.answer]; repeat' split
  all_goals simp
@[simp] theorem ports_answerStartPark : (s.answerStartPark).state.ports = s.ports := by
  simp only [State.answerStartPark, State.startUp, State.answer]; repeat' split
  all_goals simp
@[simp] theorem pending_answerStartPark : (s.answerStartPark).state.pending = s.pending := by
  simp only [State.answerStartPark, State.startUp, State.answer]; repeat' split
  all_goals simp

/-! ### answerStopPark -/

@[simp] theorem held_answerStopPark : (s.answerStopPark).state.held = s.held := by
  simp only [State.answerStopPark, State.shutDown, State.answer]; repeat' split
  all_goals simp
@[simp] theorem clock_answerStopPark : (s.answerStopPark).state.clock = s.clock := by
  simp only [State.answerStopPark, State.shutDown, State.answer]; repeat' split
  all_goals simp
@[simp] theorem plans_answerStopPark : (s.answerStopPark).state.plans = s.plans := by
  simp only [State.answerStopPark, State.shutDown, State.answer]; repeat' split
  all_goals simp
@[simp] theorem sessions_answerStopPark : (s.answerStopPark).state.sessions = s.sessions := by
  simp only [State.answerStopPark, State.shutDown, State.answer]; repeat' split
  all_goals simp
@[simp] theorem meters_answerStopPark : (s.answerStopPark).state.meters = s.meters := by
  simp only [State.answerStopPark, State.shutDown, State.answer]; repeat' split
  all_goals simp
@[simp] theorem pool_answerStopPark : (s.answerStopPark).state.pool = s.pool := by
  simp only [State.answerStopPark, State.shutDown, State.answer]; repeat' split
  all_goals simp
@[simp] theorem closures_answerStopPark : (s.answerStopPark).state.closures = s.closures := by
  simp only [State.answerStopPark, State.shutDown, State.answer]; repeat' split
  all_goals simp
@[simp] theorem notices_answerStopPark : (s.answerStopPark).state.notices = s.notices := by
  simp only [State.answerStopPark, State.shutDown, State.answer]; repeat' split
  all_goals simp
@[simp] theorem ports_answerStopPark : (s.answerStopPark).state.ports = s.ports := by
  simp only [State.answerStopPark, State.shutDown, State.answer]; repeat' split
  all_goals simp
@[simp] theorem pending_answerStopPark : (s.answerStopPark).state.pending = s.pending := by
  simp only [State.answerStopPark, State.shutDown, State.answer]; repeat' split
  all_goals simp

/-! ### answerService -/

@[simp] theorem held_answerService (m d : Byte) : (s.answerService m d).state.held = s.held := by
  simp only [State.answerService, State.serviceOut, State.serviceIn, State.answerState, State.answer]; repeat' split
  all_goals simp
@[simp] theorem control_answerService (m d : Byte) : (s.answerService m d).state.control = s.control := by
  simp only [State.answerService, State.serviceOut, State.serviceIn, State.answerState, State.answer]; repeat' split
  all_goals simp
@[simp] theorem clock_answerService (m d : Byte) : (s.answerService m d).state.clock = s.clock := by
  simp only [State.answerService, State.serviceOut, State.serviceIn, State.answerState, State.answer]; repeat' split
  all_goals simp
@[simp] theorem plans_answerService (m d : Byte) : (s.answerService m d).state.plans = s.plans := by
  simp only [State.answerService, State.serviceOut, State.serviceIn, State.answerState, State.answer]; repeat' split
  all_goals simp
@[simp] theorem sessions_answerService (m d : Byte) : (s.answerService m d).state.sessions = s.sessions := by
  simp only [State.answerService, State.serviceOut, State.serviceIn, State.answerState, State.answer]; repeat' split
  all_goals simp
@[simp] theorem meters_answerService (m d : Byte) : (s.answerService m d).state.meters = s.meters := by
  simp only [State.answerService, State.serviceOut, State.serviceIn, State.answerState, State.answer]; repeat' split
  all_goals simp
@[simp] theorem line_answerService (m d : Byte) : (s.answerService m d).state.line = s.line := by
  simp only [State.answerService, State.serviceOut, State.serviceIn, State.answerState, State.answer]; repeat' split
  all_goals simp
@[simp] theorem exchanges_answerService (m d : Byte) : (s.answerService m d).state.exchanges = s.exchanges := by
  simp only [State.answerService, State.serviceOut, State.serviceIn, State.answerState, State.answer]; repeat' split
  all_goals simp
@[simp] theorem dispatcher_answerService (m d : Byte) : (s.answerService m d).state.dispatcher = s.dispatcher := by
  simp only [State.answerService, State.serviceOut, State.serviceIn, State.answerState, State.answer]; repeat' split
  all_goals simp
@[simp] theorem closures_answerService (m d : Byte) : (s.answerService m d).state.closures = s.closures := by
  simp only [State.answerService, State.serviceOut, State.serviceIn, State.answerState, State.answer]; repeat' split
  all_goals simp
@[simp] theorem notices_answerService (m d : Byte) : (s.answerService m d).state.notices = s.notices := by
  simp only [State.answerService, State.serviceOut, State.serviceIn, State.answerState, State.answer]; repeat' split
  all_goals simp
@[simp] theorem ports_answerService (m d : Byte) : (s.answerService m d).state.ports = s.ports := by
  simp only [State.answerService, State.serviceOut, State.serviceIn, State.answerState, State.answer]; repeat' split
  all_goals simp
@[simp] theorem pending_answerService (m d : Byte) : (s.answerService m d).state.pending = s.pending := by
  simp only [State.answerService, State.serviceOut, State.serviceIn, State.answerState, State.answer]; repeat' split
  all_goals simp

/-! ### answerClear -/

@[simp] theorem held_answerClear (m : Byte) : (s.answerClear m).state.held = s.held := by
  simp only [State.answerClear, State.answerState, State.answer]; repeat' split
  all_goals simp
@[simp] theorem control_answerClear (m : Byte) : (s.answerClear m).state.control = s.control := by
  simp only [State.answerClear, State.answerState, State.answer]; repeat' split
  all_goals simp
@[simp] theorem clock_answerClear (m : Byte) : (s.answerClear m).state.clock = s.clock := by
  simp only [State.answerClear, State.answerState, State.answer]; repeat' split
  all_goals simp
@[simp] theorem plans_answerClear (m : Byte) : (s.answerClear m).state.plans = s.plans := by
  simp only [State.answerClear, State.answerState, State.answer]; repeat' split
  all_goals simp
@[simp] theorem sessions_answerClear (m : Byte) : (s.answerClear m).state.sessions = s.sessions := by
  simp only [State.answerClear, State.answerState, State.answer]; repeat' split
  all_goals simp
@[simp] theorem meters_answerClear (m : Byte) : (s.answerClear m).state.meters = s.meters := by
  simp only [State.answerClear, State.answerState, State.answer]; repeat' split
  all_goals simp
@[simp] theorem line_answerClear (m : Byte) : (s.answerClear m).state.line = s.line := by
  simp only [State.answerClear, State.answerState, State.answer]; repeat' split
  all_goals simp
@[simp] theorem exchanges_answerClear (m : Byte) : (s.answerClear m).state.exchanges = s.exchanges := by
  simp only [State.answerClear, State.answerState, State.answer]; repeat' split
  all_goals simp
@[simp] theorem dispatcher_answerClear (m : Byte) : (s.answerClear m).state.dispatcher = s.dispatcher := by
  simp only [State.answerClear, State.answerState, State.answer]; repeat' split
  all_goals simp
@[simp] theorem closures_answerClear (m : Byte) : (s.answerClear m).state.closures = s.closures := by
  simp only [State.answerClear, State.answerState, State.answer]; repeat' split
  all_goals simp
@[simp] theorem notices_answerClear (m : Byte) : (s.answerClear m).state.notices = s.notices := by
  simp only [State.answerClear, State.answerState, State.answer]; repeat' split
  all_goals simp
@[simp] theorem ports_answerClear (m : Byte) : (s.answerClear m).state.ports = s.ports := by
  simp only [State.answerClear, State.answerState, State.answer]; repeat' split
  all_goals simp
@[simp] theorem pending_answerClear (m : Byte) : (s.answerClear m).state.pending = s.pending := by
  simp only [State.answerClear, State.answerState, State.answer]; repeat' split
  all_goals simp

/-! ### answerReadOutlet -/

@[simp] theorem held_answerReadOutlet (b : Byte) : (s.answerReadOutlet b).state.held = s.held := by
  simp only [State.answerReadOutlet, State.answer]; repeat' split
  all_goals simp
@[simp] theorem control_answerReadOutlet (b : Byte) : (s.answerReadOutlet b).state.control = s.control := by
  simp only [State.answerReadOutlet, State.answer]; repeat' split
  all_goals simp
@[simp] theorem clock_answerReadOutlet (b : Byte) : (s.answerReadOutlet b).state.clock = s.clock := by
  simp only [State.answerReadOutlet, State.answer]; repeat' split
  all_goals simp
@[simp] theorem plans_answerReadOutlet (b : Byte) : (s.answerReadOutlet b).state.plans = s.plans := by
  simp only [State.answerReadOutlet, State.answer]; repeat' split
  all_goals simp
@[simp] theorem sessions_answerReadOutlet (b : Byte) : (s.answerReadOutlet b).state.sessions = s.sessions := by
  simp only [State.answerReadOutlet, State.answer]; repeat' split
  all_goals simp
@[simp] theorem meters_answerReadOutlet (b : Byte) : (s.answerReadOutlet b).state.meters = s.meters := by
  simp only [State.answerReadOutlet, State.answer]; repeat' split
  all_goals simp
@[simp] theorem line_answerReadOutlet (b : Byte) : (s.answerReadOutlet b).state.line = s.line := by
  simp only [State.answerReadOutlet, State.answer]; repeat' split
  all_goals simp
@[simp] theorem exchanges_answerReadOutlet (b : Byte) : (s.answerReadOutlet b).state.exchanges = s.exchanges := by
  simp only [State.answerReadOutlet, State.answer]; repeat' split
  all_goals simp
@[simp] theorem dispatcher_answerReadOutlet (b : Byte) : (s.answerReadOutlet b).state.dispatcher = s.dispatcher := by
  simp only [State.answerReadOutlet, State.answer]; repeat' split
  all_goals simp
@[simp] theorem pool_answerReadOutlet (b : Byte) : (s.answerReadOutlet b).state.pool = s.pool := by
  simp only [State.answerReadOutlet, State.answer]; repeat' split
  all_goals simp
@[simp] theorem closures_answerReadOutlet (b : Byte) : (s.answerReadOutlet b).state.closures = s.closures := by
  simp only [State.answerReadOutlet, State.answer]; repeat' split
  all_goals simp
@[simp] theorem notices_answerReadOutlet (b : Byte) : (s.answerReadOutlet b).state.notices = s.notices := by
  simp only [State.answerReadOutlet, State.answer]; repeat' split
  all_goals simp
@[simp] theorem ports_answerReadOutlet (b : Byte) : (s.answerReadOutlet b).state.ports = s.ports := by
  simp only [State.answerReadOutlet, State.answer]; repeat' split
  all_goals simp
@[simp] theorem pending_answerReadOutlet (b : Byte) : (s.answerReadOutlet b).state.pending = s.pending := by
  simp only [State.answerReadOutlet, State.answer]; repeat' split
  all_goals simp

/-! ### answerCounters -/

@[simp] theorem held_answerCounters (c p : Nat) : (s.answerCounters c p).state.held = s.held := by
  simp only [State.answerCounters, State.answerPart, State.takeSnapshot, State.clearCounters, State.answer]; repeat' split
  all_goals simp
@[simp] theorem control_answerCounters (c p : Nat) : (s.answerCounters c p).state.control = s.control := by
  simp only [State.answerCounters, State.answerPart, State.takeSnapshot, State.clearCounters, State.answer]; repeat' split
  all_goals simp
@[simp] theorem clock_answerCounters (c p : Nat) : (s.answerCounters c p).state.clock = s.clock := by
  simp only [State.answerCounters, State.answerPart, State.takeSnapshot, State.clearCounters, State.answer]; repeat' split
  all_goals simp
@[simp] theorem plans_answerCounters (c p : Nat) : (s.answerCounters c p).state.plans = s.plans := by
  simp only [State.answerCounters, State.answerPart, State.takeSnapshot, State.clearCounters, State.answer]; repeat' split
  all_goals simp
@[simp] theorem sessions_answerCounters (c p : Nat) : (s.answerCounters c p).state.sessions = s.sessions := by
  simp only [State.answerCounters, State.answerPart, State.takeSnapshot, State.clearCounters, State.answer]; repeat' split
  all_goals simp
@[simp] theorem exchanges_answerCounters (c p : Nat) : (s.answerCounters c p).state.exchanges = s.exchanges := by
  simp only [State.answerCounters, State.answerPart, State.takeSnapshot, State.clearCounters, State.answer]; repeat' split
  all_goals simp
@[simp] theorem dispatcher_answerCounters (c p : Nat) : (s.answerCounters c p).state.dispatcher = s.dispatcher := by
  simp only [State.answerCounters, State.answerPart, State.takeSnapshot, State.clearCounters, State.answer]; repeat' split
  all_goals simp
@[simp] theorem closures_answerCounters (c p : Nat) : (s.answerCounters c p).state.closures = s.closures := by
  simp only [State.answerCounters, State.answerPart, State.takeSnapshot, State.clearCounters, State.answer]; repeat' split
  all_goals simp
@[simp] theorem notices_answerCounters (c p : Nat) : (s.answerCounters c p).state.notices = s.notices := by
  simp only [State.answerCounters, State.answerPart, State.takeSnapshot, State.clearCounters, State.answer]; repeat' split
  all_goals simp
@[simp] theorem pending_answerCounters (c p : Nat) : (s.answerCounters c p).state.pending = s.pending := by
  simp only [State.answerCounters, State.answerPart, State.takeSnapshot, State.clearCounters, State.answer]; repeat' split
  all_goals simp

/-! ### completeFrame -/

@[simp] theorem held_completeFrame (p : PortId) (f : RawFrame) (r : FrameVerdict → Option (Byte × Status)) : (s.completeFrame p f r).held = s.held := by
  simp only [State.completeFrame, State.answer]; repeat' split
  all_goals simp
@[simp] theorem control_completeFrame (p : PortId) (f : RawFrame) (r : FrameVerdict → Option (Byte × Status)) : (s.completeFrame p f r).control = s.control := by
  simp only [State.completeFrame, State.answer]; repeat' split
  all_goals simp
@[simp] theorem clock_completeFrame (p : PortId) (f : RawFrame) (r : FrameVerdict → Option (Byte × Status)) : (s.completeFrame p f r).clock = s.clock := by
  simp only [State.completeFrame, State.answer]; repeat' split
  all_goals simp
@[simp] theorem plans_completeFrame (p : PortId) (f : RawFrame) (r : FrameVerdict → Option (Byte × Status)) : (s.completeFrame p f r).plans = s.plans := by
  simp only [State.completeFrame, State.answer]; repeat' split
  all_goals simp
@[simp] theorem sessions_completeFrame (p : PortId) (f : RawFrame) (r : FrameVerdict → Option (Byte × Status)) : (s.completeFrame p f r).sessions = s.sessions := by
  simp only [State.completeFrame, State.answer]; repeat' split
  all_goals simp
@[simp] theorem meters_completeFrame (p : PortId) (f : RawFrame) (r : FrameVerdict → Option (Byte × Status)) : (s.completeFrame p f r).meters = s.meters := by
  simp only [State.completeFrame, State.answer]; repeat' split
  all_goals simp
@[simp] theorem line_completeFrame (p : PortId) (f : RawFrame) (r : FrameVerdict → Option (Byte × Status)) : (s.completeFrame p f r).line = s.line := by
  simp only [State.completeFrame, State.answer]; repeat' split
  all_goals simp
@[simp] theorem exchanges_completeFrame (p : PortId) (f : RawFrame) (r : FrameVerdict → Option (Byte × Status)) : (s.completeFrame p f r).exchanges = s.exchanges := by
  simp only [State.completeFrame, State.answer]; repeat' split
  all_goals simp
@[simp] theorem dispatcher_completeFrame (p : PortId) (f : RawFrame) (r : FrameVerdict → Option (Byte × Status)) : (s.completeFrame p f r).dispatcher = s.dispatcher := by
  simp only [State.completeFrame, State.answer]; repeat' split
  all_goals simp
@[simp] theorem pool_completeFrame (p : PortId) (f : RawFrame) (r : FrameVerdict → Option (Byte × Status)) : (s.completeFrame p f r).pool = s.pool := by
  simp only [State.completeFrame, State.answer]; repeat' split
  all_goals simp
@[simp] theorem closures_completeFrame (p : PortId) (f : RawFrame) (r : FrameVerdict → Option (Byte × Status)) : (s.completeFrame p f r).closures = s.closures := by
  simp only [State.completeFrame, State.answer]; repeat' split
  all_goals simp
@[simp] theorem notices_completeFrame (p : PortId) (f : RawFrame) (r : FrameVerdict → Option (Byte × Status)) : (s.completeFrame p f r).notices = s.notices := by
  simp only [State.completeFrame, State.answer]; repeat' split
  all_goals simp
@[simp] theorem pending_completeFrame (p : PortId) (f : RawFrame) (r : FrameVerdict → Option (Byte × Status)) : (s.completeFrame p f r).pending = s.pending := by
  simp only [State.completeFrame, State.answer]; repeat' split
  all_goals simp

/-! ### gapTimeout -/

@[simp] theorem held_gapTimeout (p : PortId) (l : List Byte) : (s.gapTimeout p l).held = s.held := by
  simp only [State.gapTimeout, State.answer]; repeat' split
  all_goals simp
@[simp] theorem control_gapTimeout (p : PortId) (l : List Byte) : (s.gapTimeout p l).control = s.control := by
  simp only [State.gapTimeout, State.answer]; repeat' split
  all_goals simp
@[simp] theorem clock_gapTimeout (p : PortId) (l : List Byte) : (s.gapTimeout p l).clock = s.clock := by
  simp only [State.gapTimeout, State.answer]; repeat' split
  all_goals simp
@[simp] theorem plans_gapTimeout (p : PortId) (l : List Byte) : (s.gapTimeout p l).plans = s.plans := by
  simp only [State.gapTimeout, State.answer]; repeat' split
  all_goals simp
@[simp] theorem sessions_gapTimeout (p : PortId) (l : List Byte) : (s.gapTimeout p l).sessions = s.sessions := by
  simp only [State.gapTimeout, State.answer]; repeat' split
  all_goals simp
@[simp] theorem meters_gapTimeout (p : PortId) (l : List Byte) : (s.gapTimeout p l).meters = s.meters := by
  simp only [State.gapTimeout, State.answer]; repeat' split
  all_goals simp
@[simp] theorem line_gapTimeout (p : PortId) (l : List Byte) : (s.gapTimeout p l).line = s.line := by
  simp only [State.gapTimeout, State.answer]; repeat' split
  all_goals simp
@[simp] theorem exchanges_gapTimeout (p : PortId) (l : List Byte) : (s.gapTimeout p l).exchanges = s.exchanges := by
  simp only [State.gapTimeout, State.answer]; repeat' split
  all_goals simp
@[simp] theorem dispatcher_gapTimeout (p : PortId) (l : List Byte) : (s.gapTimeout p l).dispatcher = s.dispatcher := by
  simp only [State.gapTimeout, State.answer]; repeat' split
  all_goals simp
@[simp] theorem pool_gapTimeout (p : PortId) (l : List Byte) : (s.gapTimeout p l).pool = s.pool := by
  simp only [State.gapTimeout, State.answer]; repeat' split
  all_goals simp
@[simp] theorem closures_gapTimeout (p : PortId) (l : List Byte) : (s.gapTimeout p l).closures = s.closures := by
  simp only [State.gapTimeout, State.answer]; repeat' split
  all_goals simp
@[simp] theorem notices_gapTimeout (p : PortId) (l : List Byte) : (s.gapTimeout p l).notices = s.notices := by
  simp only [State.gapTimeout, State.answer]; repeat' split
  all_goals simp
@[simp] theorem pending_gapTimeout (p : PortId) (l : List Byte) : (s.gapTimeout p l).pending = s.pending := by
  simp only [State.gapTimeout, State.answer]; repeat' split
  all_goals simp

/-! ### responseSent -/

@[simp] theorem held_responseSent (p : PortId) : (s.responseSent p).held = s.held := by
  simp only [State.responseSent, State.answer]; repeat' split
  all_goals simp
@[simp] theorem control_responseSent (p : PortId) : (s.responseSent p).control = s.control := by
  simp only [State.responseSent, State.answer]; repeat' split
  all_goals simp
@[simp] theorem clock_responseSent (p : PortId) : (s.responseSent p).clock = s.clock := by
  simp only [State.responseSent, State.answer]; repeat' split
  all_goals simp
@[simp] theorem plans_responseSent (p : PortId) : (s.responseSent p).plans = s.plans := by
  simp only [State.responseSent, State.answer]; repeat' split
  all_goals simp
@[simp] theorem sessions_responseSent (p : PortId) : (s.responseSent p).sessions = s.sessions := by
  simp only [State.responseSent, State.answer]; repeat' split
  all_goals simp
@[simp] theorem meters_responseSent (p : PortId) : (s.responseSent p).meters = s.meters := by
  simp only [State.responseSent, State.answer]; repeat' split
  all_goals simp
@[simp] theorem line_responseSent (p : PortId) : (s.responseSent p).line = s.line := by
  simp only [State.responseSent, State.answer]; repeat' split
  all_goals simp
@[simp] theorem exchanges_responseSent (p : PortId) : (s.responseSent p).exchanges = s.exchanges := by
  simp only [State.responseSent, State.answer]; repeat' split
  all_goals simp
@[simp] theorem dispatcher_responseSent (p : PortId) : (s.responseSent p).dispatcher = s.dispatcher := by
  simp only [State.responseSent, State.answer]; repeat' split
  all_goals simp
@[simp] theorem pool_responseSent (p : PortId) : (s.responseSent p).pool = s.pool := by
  simp only [State.responseSent, State.answer]; repeat' split
  all_goals simp
@[simp] theorem closures_responseSent (p : PortId) : (s.responseSent p).closures = s.closures := by
  simp only [State.responseSent, State.answer]; repeat' split
  all_goals simp
@[simp] theorem notices_responseSent (p : PortId) : (s.responseSent p).notices = s.notices := by
  simp only [State.responseSent, State.answer]; repeat' split
  all_goals simp
@[simp] theorem pending_responseSent (p : PortId) : (s.responseSent p).pending = s.pending := by
  simp only [State.responseSent, State.answer]; repeat' split
  all_goals simp

/-! ### cabinetMessageDone -/

@[simp] theorem held_cabinetMessageDone : (s.cabinetMessageDone).held = s.held := by
  simp only [State.cabinetMessageDone, State.answer]; repeat' split
  all_goals simp
@[simp] theorem control_cabinetMessageDone : (s.cabinetMessageDone).control = s.control := by
  simp only [State.cabinetMessageDone, State.answer]; repeat' split
  all_goals simp
@[simp] theorem clock_cabinetMessageDone : (s.cabinetMessageDone).clock = s.clock := by
  simp only [State.cabinetMessageDone, State.answer]; repeat' split
  all_goals simp
@[simp] theorem plans_cabinetMessageDone : (s.cabinetMessageDone).plans = s.plans := by
  simp only [State.cabinetMessageDone, State.answer]; repeat' split
  all_goals simp
@[simp] theorem sessions_cabinetMessageDone : (s.cabinetMessageDone).sessions = s.sessions := by
  simp only [State.cabinetMessageDone, State.answer]; repeat' split
  all_goals simp
@[simp] theorem meters_cabinetMessageDone : (s.cabinetMessageDone).meters = s.meters := by
  simp only [State.cabinetMessageDone, State.answer]; repeat' split
  all_goals simp
@[simp] theorem line_cabinetMessageDone : (s.cabinetMessageDone).line = s.line := by
  simp only [State.cabinetMessageDone, State.answer]; repeat' split
  all_goals simp
@[simp] theorem exchanges_cabinetMessageDone : (s.cabinetMessageDone).exchanges = s.exchanges := by
  simp only [State.cabinetMessageDone, State.answer]; repeat' split
  all_goals simp
@[simp] theorem dispatcher_cabinetMessageDone : (s.cabinetMessageDone).dispatcher = s.dispatcher := by
  simp only [State.cabinetMessageDone, State.answer]; repeat' split
  all_goals simp
@[simp] theorem closures_cabinetMessageDone : (s.cabinetMessageDone).closures = s.closures := by
  simp only [State.cabinetMessageDone, State.answer]; repeat' split
  all_goals simp
@[simp] theorem notices_cabinetMessageDone : (s.cabinetMessageDone).notices = s.notices := by
  simp only [State.cabinetMessageDone, State.answer]; repeat' split
  all_goals simp
@[simp] theorem ports_cabinetMessageDone : (s.cabinetMessageDone).ports = s.ports := by
  simp only [State.cabinetMessageDone, State.answer]; repeat' split
  all_goals simp
@[simp] theorem pending_cabinetMessageDone : (s.cabinetMessageDone).pending = s.pending := by
  simp only [State.cabinetMessageDone, State.answer]; repeat' split
  all_goals simp

/-! ### setIndication -/

@[simp] theorem held_setIndication (m : ModuleNo) (i : Indication) : (s.setIndication m i).held = s.held := by
  simp only [State.setIndication, State.answer]; repeat' split
  all_goals simp
@[simp] theorem control_setIndication (m : ModuleNo) (i : Indication) : (s.setIndication m i).control = s.control := by
  simp only [State.setIndication, State.answer]; repeat' split
  all_goals simp
@[simp] theorem clock_setIndication (m : ModuleNo) (i : Indication) : (s.setIndication m i).clock = s.clock := by
  simp only [State.setIndication, State.answer]; repeat' split
  all_goals simp
@[simp] theorem plans_setIndication (m : ModuleNo) (i : Indication) : (s.setIndication m i).plans = s.plans := by
  simp only [State.setIndication, State.answer]; repeat' split
  all_goals simp
@[simp] theorem sessions_setIndication (m : ModuleNo) (i : Indication) : (s.setIndication m i).sessions = s.sessions := by
  simp only [State.setIndication, State.answer]; repeat' split
  all_goals simp
@[simp] theorem meters_setIndication (m : ModuleNo) (i : Indication) : (s.setIndication m i).meters = s.meters := by
  simp only [State.setIndication, State.answer]; repeat' split
  all_goals simp
@[simp] theorem line_setIndication (m : ModuleNo) (i : Indication) : (s.setIndication m i).line = s.line := by
  simp only [State.setIndication, State.answer]; repeat' split
  all_goals simp
@[simp] theorem exchanges_setIndication (m : ModuleNo) (i : Indication) : (s.setIndication m i).exchanges = s.exchanges := by
  simp only [State.setIndication, State.answer]; repeat' split
  all_goals simp
@[simp] theorem dispatcher_setIndication (m : ModuleNo) (i : Indication) : (s.setIndication m i).dispatcher = s.dispatcher := by
  simp only [State.setIndication, State.answer]; repeat' split
  all_goals simp
@[simp] theorem closures_setIndication (m : ModuleNo) (i : Indication) : (s.setIndication m i).closures = s.closures := by
  simp only [State.setIndication, State.answer]; repeat' split
  all_goals simp
@[simp] theorem notices_setIndication (m : ModuleNo) (i : Indication) : (s.setIndication m i).notices = s.notices := by
  simp only [State.setIndication, State.answer]; repeat' split
  all_goals simp
@[simp] theorem ports_setIndication (m : ModuleNo) (i : Indication) : (s.setIndication m i).ports = s.ports := by
  simp only [State.setIndication, State.answer]; repeat' split
  all_goals simp
@[simp] theorem pending_setIndication (m : ModuleNo) (i : Indication) : (s.setIndication m i).pending = s.pending := by
  simp only [State.setIndication, State.answer]; repeat' split
  all_goals simp

/-! ### confirm -/

@[simp] theorem held_confirm (m : ModuleNo) (r : Option Outlet) : (s.confirm m r).held = s.held := by
  simp only [State.confirm, State.routeConfirmed, State.opened, State.unexpectedConfirm, State.answer]; repeat' split
  all_goals simp
@[simp] theorem control_confirm (m : ModuleNo) (r : Option Outlet) : (s.confirm m r).control = s.control := by
  simp only [State.confirm, State.routeConfirmed, State.opened, State.unexpectedConfirm, State.answer]; repeat' split
  all_goals simp
@[simp] theorem clock_confirm (m : ModuleNo) (r : Option Outlet) : (s.confirm m r).clock = s.clock := by
  simp only [State.confirm, State.routeConfirmed, State.opened, State.unexpectedConfirm, State.answer]; repeat' split
  all_goals simp
@[simp] theorem plans_confirm (m : ModuleNo) (r : Option Outlet) : (s.confirm m r).plans = s.plans := by
  simp only [State.confirm, State.routeConfirmed, State.opened, State.unexpectedConfirm, State.answer]; repeat' split
  all_goals simp
@[simp] theorem meters_confirm (m : ModuleNo) (r : Option Outlet) : (s.confirm m r).meters = s.meters := by
  simp only [State.confirm, State.routeConfirmed, State.opened, State.unexpectedConfirm, State.answer]; repeat' split
  all_goals simp
@[simp] theorem line_confirm (m : ModuleNo) (r : Option Outlet) : (s.confirm m r).line = s.line := by
  simp only [State.confirm, State.routeConfirmed, State.opened, State.unexpectedConfirm, State.answer]; repeat' split
  all_goals simp
@[simp] theorem exchanges_confirm (m : ModuleNo) (r : Option Outlet) : (s.confirm m r).exchanges = s.exchanges := by
  simp only [State.confirm, State.routeConfirmed, State.opened, State.unexpectedConfirm, State.answer]; repeat' split
  all_goals simp
@[simp] theorem dispatcher_confirm (m : ModuleNo) (r : Option Outlet) : (s.confirm m r).dispatcher = s.dispatcher := by
  simp only [State.confirm, State.routeConfirmed, State.opened, State.unexpectedConfirm, State.answer]; repeat' split
  all_goals simp
@[simp] theorem closures_confirm (m : ModuleNo) (r : Option Outlet) : (s.confirm m r).closures = s.closures := by
  simp only [State.confirm, State.routeConfirmed, State.opened, State.unexpectedConfirm, State.answer]; repeat' split
  all_goals simp
@[simp] theorem ports_confirm (m : ModuleNo) (r : Option Outlet) : (s.confirm m r).ports = s.ports := by
  simp only [State.confirm, State.routeConfirmed, State.opened, State.unexpectedConfirm, State.answer]; repeat' split
  all_goals simp
@[simp] theorem pending_confirm (m : ModuleNo) (r : Option Outlet) : (s.confirm m r).pending = s.pending := by
  simp only [State.confirm, State.routeConfirmed, State.opened, State.unexpectedConfirm, State.answer]; repeat' split
  all_goals simp

/-! ### faultOn -/

@[simp] theorem held_faultOn (m : ModuleNo) : (s.faultOn m).held = s.held := by
  simp only [State.faultOn, State.setIndication, State.answer]; repeat' split
  all_goals simp
@[simp] theorem control_faultOn (m : ModuleNo) : (s.faultOn m).control = s.control := by
  simp only [State.faultOn, State.setIndication, State.answer]; repeat' split
  all_goals simp
@[simp] theorem clock_faultOn (m : ModuleNo) : (s.faultOn m).clock = s.clock := by
  simp only [State.faultOn, State.setIndication, State.answer]; repeat' split
  all_goals simp
@[simp] theorem plans_faultOn (m : ModuleNo) : (s.faultOn m).plans = s.plans := by
  simp only [State.faultOn, State.setIndication, State.answer]; repeat' split
  all_goals simp
@[simp] theorem meters_faultOn (m : ModuleNo) : (s.faultOn m).meters = s.meters := by
  simp only [State.faultOn, State.setIndication, State.answer]; repeat' split
  all_goals simp
@[simp] theorem line_faultOn (m : ModuleNo) : (s.faultOn m).line = s.line := by
  simp only [State.faultOn, State.setIndication, State.answer]; repeat' split
  all_goals simp
@[simp] theorem exchanges_faultOn (m : ModuleNo) : (s.faultOn m).exchanges = s.exchanges := by
  simp only [State.faultOn, State.setIndication, State.answer]; repeat' split
  all_goals simp
@[simp] theorem dispatcher_faultOn (m : ModuleNo) : (s.faultOn m).dispatcher = s.dispatcher := by
  simp only [State.faultOn, State.setIndication, State.answer]; repeat' split
  all_goals simp
@[simp] theorem closures_faultOn (m : ModuleNo) : (s.faultOn m).closures = s.closures := by
  simp only [State.faultOn, State.setIndication, State.answer]; repeat' split
  all_goals simp
@[simp] theorem ports_faultOn (m : ModuleNo) : (s.faultOn m).ports = s.ports := by
  simp only [State.faultOn, State.setIndication, State.answer]; repeat' split
  all_goals simp
@[simp] theorem pending_faultOn (m : ModuleNo) : (s.faultOn m).pending = s.pending := by
  simp only [State.faultOn, State.setIndication, State.answer]; repeat' split
  all_goals simp

/-! ### cabinetFrameError -/

@[simp] theorem held_cabinetFrameError : (s.cabinetFrameError).held = s.held := by
  simp only [State.cabinetFrameError, State.answer]; repeat' split
  all_goals simp
@[simp] theorem control_cabinetFrameError : (s.cabinetFrameError).control = s.control := by
  simp only [State.cabinetFrameError, State.answer]; repeat' split
  all_goals simp
@[simp] theorem clock_cabinetFrameError : (s.cabinetFrameError).clock = s.clock := by
  simp only [State.cabinetFrameError, State.answer]; repeat' split
  all_goals simp
@[simp] theorem plans_cabinetFrameError : (s.cabinetFrameError).plans = s.plans := by
  simp only [State.cabinetFrameError, State.answer]; repeat' split
  all_goals simp
@[simp] theorem sessions_cabinetFrameError : (s.cabinetFrameError).sessions = s.sessions := by
  simp only [State.cabinetFrameError, State.answer]; repeat' split
  all_goals simp
@[simp] theorem meters_cabinetFrameError : (s.cabinetFrameError).meters = s.meters := by
  simp only [State.cabinetFrameError, State.answer]; repeat' split
  all_goals simp
@[simp] theorem line_cabinetFrameError : (s.cabinetFrameError).line = s.line := by
  simp only [State.cabinetFrameError, State.answer]; repeat' split
  all_goals simp
@[simp] theorem exchanges_cabinetFrameError : (s.cabinetFrameError).exchanges = s.exchanges := by
  simp only [State.cabinetFrameError, State.answer]; repeat' split
  all_goals simp
@[simp] theorem dispatcher_cabinetFrameError : (s.cabinetFrameError).dispatcher = s.dispatcher := by
  simp only [State.cabinetFrameError, State.answer]; repeat' split
  all_goals simp
@[simp] theorem closures_cabinetFrameError : (s.cabinetFrameError).closures = s.closures := by
  simp only [State.cabinetFrameError, State.answer]; repeat' split
  all_goals simp
@[simp] theorem notices_cabinetFrameError : (s.cabinetFrameError).notices = s.notices := by
  simp only [State.cabinetFrameError, State.answer]; repeat' split
  all_goals simp
@[simp] theorem ports_cabinetFrameError : (s.cabinetFrameError).ports = s.ports := by
  simp only [State.cabinetFrameError, State.answer]; repeat' split
  all_goals simp
@[simp] theorem pending_cabinetFrameError : (s.cabinetFrameError).pending = s.pending := by
  simp only [State.cabinetFrameError, State.answer]; repeat' split
  all_goals simp

/-! ### unusableMessage -/

@[simp] theorem held_unusableMessage : (s.unusableMessage).held = s.held := by
  simp only [State.unusableMessage, State.answer]; repeat' split
  all_goals simp
@[simp] theorem control_unusableMessage : (s.unusableMessage).control = s.control := by
  simp only [State.unusableMessage, State.answer]; repeat' split
  all_goals simp
@[simp] theorem clock_unusableMessage : (s.unusableMessage).clock = s.clock := by
  simp only [State.unusableMessage, State.answer]; repeat' split
  all_goals simp
@[simp] theorem plans_unusableMessage : (s.unusableMessage).plans = s.plans := by
  simp only [State.unusableMessage, State.answer]; repeat' split
  all_goals simp
@[simp] theorem sessions_unusableMessage : (s.unusableMessage).sessions = s.sessions := by
  simp only [State.unusableMessage, State.answer]; repeat' split
  all_goals simp
@[simp] theorem meters_unusableMessage : (s.unusableMessage).meters = s.meters := by
  simp only [State.unusableMessage, State.answer]; repeat' split
  all_goals simp
@[simp] theorem line_unusableMessage : (s.unusableMessage).line = s.line := by
  simp only [State.unusableMessage, State.answer]; repeat' split
  all_goals simp
@[simp] theorem exchanges_unusableMessage : (s.unusableMessage).exchanges = s.exchanges := by
  simp only [State.unusableMessage, State.answer]; repeat' split
  all_goals simp
@[simp] theorem dispatcher_unusableMessage : (s.unusableMessage).dispatcher = s.dispatcher := by
  simp only [State.unusableMessage, State.answer]; repeat' split
  all_goals simp
@[simp] theorem closures_unusableMessage : (s.unusableMessage).closures = s.closures := by
  simp only [State.unusableMessage, State.answer]; repeat' split
  all_goals simp
@[simp] theorem notices_unusableMessage : (s.unusableMessage).notices = s.notices := by
  simp only [State.unusableMessage, State.answer]; repeat' split
  all_goals simp
@[simp] theorem ports_unusableMessage : (s.unusableMessage).ports = s.ports := by
  simp only [State.unusableMessage, State.answer]; repeat' split
  all_goals simp
@[simp] theorem pending_unusableMessage : (s.unusableMessage).pending = s.pending := by
  simp only [State.unusableMessage, State.answer]; repeat' split
  all_goals simp

/-! ### cabinetSent -/

@[simp] theorem held_cabinetSent : (s.cabinetSent).held = s.held := by
  simp only [State.cabinetSent, State.answer]; repeat' split
  all_goals simp
@[simp] theorem control_cabinetSent : (s.cabinetSent).control = s.control := by
  simp only [State.cabinetSent, State.answer]; repeat' split
  all_goals simp
@[simp] theorem clock_cabinetSent : (s.cabinetSent).clock = s.clock := by
  simp only [State.cabinetSent, State.answer]; repeat' split
  all_goals simp
@[simp] theorem plans_cabinetSent : (s.cabinetSent).plans = s.plans := by
  simp only [State.cabinetSent, State.answer]; repeat' split
  all_goals simp
@[simp] theorem sessions_cabinetSent : (s.cabinetSent).sessions = s.sessions := by
  simp only [State.cabinetSent, State.answer]; repeat' split
  all_goals simp
@[simp] theorem meters_cabinetSent : (s.cabinetSent).meters = s.meters := by
  simp only [State.cabinetSent, State.answer]; repeat' split
  all_goals simp
@[simp] theorem line_cabinetSent : (s.cabinetSent).line = s.line := by
  simp only [State.cabinetSent, State.answer]; repeat' split
  all_goals simp
@[simp] theorem exchanges_cabinetSent : (s.cabinetSent).exchanges = s.exchanges := by
  simp only [State.cabinetSent, State.answer]; repeat' split
  all_goals simp
@[simp] theorem dispatcher_cabinetSent : (s.cabinetSent).dispatcher = s.dispatcher := by
  simp only [State.cabinetSent, State.answer]; repeat' split
  all_goals simp
@[simp] theorem closures_cabinetSent : (s.cabinetSent).closures = s.closures := by
  simp only [State.cabinetSent, State.answer]; repeat' split
  all_goals simp
@[simp] theorem notices_cabinetSent : (s.cabinetSent).notices = s.notices := by
  simp only [State.cabinetSent, State.answer]; repeat' split
  all_goals simp
@[simp] theorem ports_cabinetSent : (s.cabinetSent).ports = s.ports := by
  simp only [State.cabinetSent, State.answer]; repeat' split
  all_goals simp
@[simp] theorem pending_cabinetSent : (s.cabinetSent).pending = s.pending := by
  simp only [State.cabinetSent, State.answer]; repeat' split
  all_goals simp

/-! ### reportFrame -/

@[simp] theorem held_reportFrame (o : Outlet) (l : List Byte) (e : FrameEnd) : (s.reportFrame o l e).held = s.held := by
  simp only [State.reportFrame, State.judgeReport, State.countDiscard, State.discardFrame, State.answer]; repeat' split
  all_goals simp
@[simp] theorem control_reportFrame (o : Outlet) (l : List Byte) (e : FrameEnd) : (s.reportFrame o l e).control = s.control := by
  simp only [State.reportFrame, State.judgeReport, State.countDiscard, State.discardFrame, State.answer]; repeat' split
  all_goals simp
@[simp] theorem clock_reportFrame (o : Outlet) (l : List Byte) (e : FrameEnd) : (s.reportFrame o l e).clock = s.clock := by
  simp only [State.reportFrame, State.judgeReport, State.countDiscard, State.discardFrame, State.answer]; repeat' split
  all_goals simp
@[simp] theorem plans_reportFrame (o : Outlet) (l : List Byte) (e : FrameEnd) : (s.reportFrame o l e).plans = s.plans := by
  simp only [State.reportFrame, State.judgeReport, State.countDiscard, State.discardFrame, State.answer]; repeat' split
  all_goals simp
@[simp] theorem sessions_reportFrame (o : Outlet) (l : List Byte) (e : FrameEnd) : (s.reportFrame o l e).sessions = s.sessions := by
  simp only [State.reportFrame, State.judgeReport, State.countDiscard, State.discardFrame, State.answer]; repeat' split
  all_goals simp
@[simp] theorem meters_reportFrame (o : Outlet) (l : List Byte) (e : FrameEnd) : (s.reportFrame o l e).meters = s.meters := by
  simp only [State.reportFrame, State.judgeReport, State.countDiscard, State.discardFrame, State.answer]; repeat' split
  all_goals simp
@[simp] theorem dispatcher_reportFrame (o : Outlet) (l : List Byte) (e : FrameEnd) : (s.reportFrame o l e).dispatcher = s.dispatcher := by
  simp only [State.reportFrame, State.judgeReport, State.countDiscard, State.discardFrame, State.answer]; repeat' split
  all_goals simp
@[simp] theorem pool_reportFrame (o : Outlet) (l : List Byte) (e : FrameEnd) : (s.reportFrame o l e).pool = s.pool := by
  simp only [State.reportFrame, State.judgeReport, State.countDiscard, State.discardFrame, State.answer]; repeat' split
  all_goals simp
@[simp] theorem closures_reportFrame (o : Outlet) (l : List Byte) (e : FrameEnd) : (s.reportFrame o l e).closures = s.closures := by
  simp only [State.reportFrame, State.judgeReport, State.countDiscard, State.discardFrame, State.answer]; repeat' split
  all_goals simp
@[simp] theorem notices_reportFrame (o : Outlet) (l : List Byte) (e : FrameEnd) : (s.reportFrame o l e).notices = s.notices := by
  simp only [State.reportFrame, State.judgeReport, State.countDiscard, State.discardFrame, State.answer]; repeat' split
  all_goals simp
@[simp] theorem ports_reportFrame (o : Outlet) (l : List Byte) (e : FrameEnd) : (s.reportFrame o l e).ports = s.ports := by
  simp only [State.reportFrame, State.judgeReport, State.countDiscard, State.discardFrame, State.answer]; repeat' split
  all_goals simp
@[simp] theorem pending_reportFrame (o : Outlet) (l : List Byte) (e : FrameEnd) : (s.reportFrame o l e).pending = s.pending := by
  simp only [State.reportFrame, State.judgeReport, State.countDiscard, State.discardFrame, State.answer]; repeat' split
  all_goals simp

/-! ### gapTimeOut -/

@[simp] theorem held_gapTimeOut (o : Outlet) (n : Nat) : (s.gapTimeOut o n).held = s.held := by
  simp only [State.gapTimeOut, State.discardFrame, State.answer]; repeat' split
  all_goals simp
@[simp] theorem control_gapTimeOut (o : Outlet) (n : Nat) : (s.gapTimeOut o n).control = s.control := by
  simp only [State.gapTimeOut, State.discardFrame, State.answer]; repeat' split
  all_goals simp
@[simp] theorem clock_gapTimeOut (o : Outlet) (n : Nat) : (s.gapTimeOut o n).clock = s.clock := by
  simp only [State.gapTimeOut, State.discardFrame, State.answer]; repeat' split
  all_goals simp
@[simp] theorem plans_gapTimeOut (o : Outlet) (n : Nat) : (s.gapTimeOut o n).plans = s.plans := by
  simp only [State.gapTimeOut, State.discardFrame, State.answer]; repeat' split
  all_goals simp
@[simp] theorem sessions_gapTimeOut (o : Outlet) (n : Nat) : (s.gapTimeOut o n).sessions = s.sessions := by
  simp only [State.gapTimeOut, State.discardFrame, State.answer]; repeat' split
  all_goals simp
@[simp] theorem meters_gapTimeOut (o : Outlet) (n : Nat) : (s.gapTimeOut o n).meters = s.meters := by
  simp only [State.gapTimeOut, State.discardFrame, State.answer]; repeat' split
  all_goals simp
@[simp] theorem dispatcher_gapTimeOut (o : Outlet) (n : Nat) : (s.gapTimeOut o n).dispatcher = s.dispatcher := by
  simp only [State.gapTimeOut, State.discardFrame, State.answer]; repeat' split
  all_goals simp
@[simp] theorem pool_gapTimeOut (o : Outlet) (n : Nat) : (s.gapTimeOut o n).pool = s.pool := by
  simp only [State.gapTimeOut, State.discardFrame, State.answer]; repeat' split
  all_goals simp
@[simp] theorem closures_gapTimeOut (o : Outlet) (n : Nat) : (s.gapTimeOut o n).closures = s.closures := by
  simp only [State.gapTimeOut, State.discardFrame, State.answer]; repeat' split
  all_goals simp
@[simp] theorem notices_gapTimeOut (o : Outlet) (n : Nat) : (s.gapTimeOut o n).notices = s.notices := by
  simp only [State.gapTimeOut, State.discardFrame, State.answer]; repeat' split
  all_goals simp
@[simp] theorem ports_gapTimeOut (o : Outlet) (n : Nat) : (s.gapTimeOut o n).ports = s.ports := by
  simp only [State.gapTimeOut, State.discardFrame, State.answer]; repeat' split
  all_goals simp
@[simp] theorem pending_gapTimeOut (o : Outlet) (n : Nat) : (s.gapTimeOut o n).pending = s.pending := by
  simp only [State.gapTimeOut, State.discardFrame, State.answer]; repeat' split
  all_goals simp

/-! ### reportDiscard -/

@[simp] theorem held_reportDiscard (o : Outlet) (n : Nat) (e : FrameEnd) : (s.reportDiscard o n e).held = s.held := by
  simp only [State.reportDiscard, State.countDiscard, State.discardFrame, State.answer]; repeat' split
  all_goals simp
@[simp] theorem control_reportDiscard (o : Outlet) (n : Nat) (e : FrameEnd) : (s.reportDiscard o n e).control = s.control := by
  simp only [State.reportDiscard, State.countDiscard, State.discardFrame, State.answer]; repeat' split
  all_goals simp
@[simp] theorem clock_reportDiscard (o : Outlet) (n : Nat) (e : FrameEnd) : (s.reportDiscard o n e).clock = s.clock := by
  simp only [State.reportDiscard, State.countDiscard, State.discardFrame, State.answer]; repeat' split
  all_goals simp
@[simp] theorem plans_reportDiscard (o : Outlet) (n : Nat) (e : FrameEnd) : (s.reportDiscard o n e).plans = s.plans := by
  simp only [State.reportDiscard, State.countDiscard, State.discardFrame, State.answer]; repeat' split
  all_goals simp
@[simp] theorem sessions_reportDiscard (o : Outlet) (n : Nat) (e : FrameEnd) : (s.reportDiscard o n e).sessions = s.sessions := by
  simp only [State.reportDiscard, State.countDiscard, State.discardFrame, State.answer]; repeat' split
  all_goals simp
@[simp] theorem meters_reportDiscard (o : Outlet) (n : Nat) (e : FrameEnd) : (s.reportDiscard o n e).meters = s.meters := by
  simp only [State.reportDiscard, State.countDiscard, State.discardFrame, State.answer]; repeat' split
  all_goals simp
@[simp] theorem dispatcher_reportDiscard (o : Outlet) (n : Nat) (e : FrameEnd) : (s.reportDiscard o n e).dispatcher = s.dispatcher := by
  simp only [State.reportDiscard, State.countDiscard, State.discardFrame, State.answer]; repeat' split
  all_goals simp
@[simp] theorem pool_reportDiscard (o : Outlet) (n : Nat) (e : FrameEnd) : (s.reportDiscard o n e).pool = s.pool := by
  simp only [State.reportDiscard, State.countDiscard, State.discardFrame, State.answer]; repeat' split
  all_goals simp
@[simp] theorem closures_reportDiscard (o : Outlet) (n : Nat) (e : FrameEnd) : (s.reportDiscard o n e).closures = s.closures := by
  simp only [State.reportDiscard, State.countDiscard, State.discardFrame, State.answer]; repeat' split
  all_goals simp
@[simp] theorem notices_reportDiscard (o : Outlet) (n : Nat) (e : FrameEnd) : (s.reportDiscard o n e).notices = s.notices := by
  simp only [State.reportDiscard, State.countDiscard, State.discardFrame, State.answer]; repeat' split
  all_goals simp
@[simp] theorem ports_reportDiscard (o : Outlet) (n : Nat) (e : FrameEnd) : (s.reportDiscard o n e).ports = s.ports := by
  simp only [State.reportDiscard, State.countDiscard, State.discardFrame, State.answer]; repeat' split
  all_goals simp
@[simp] theorem pending_reportDiscard (o : Outlet) (n : Nat) (e : FrameEnd) : (s.reportDiscard o n e).pending = s.pending := by
  simp only [State.reportDiscard, State.countDiscard, State.discardFrame, State.answer]; repeat' split
  all_goals simp

/-! ### rejectCharacter -/

@[simp] theorem held_rejectCharacter (b : Bool) : (s.rejectCharacter b).held = s.held := by
  simp only [State.rejectCharacter, State.discardAssembling, State.discardFrame, State.answer]; repeat' split
  all_goals simp
@[simp] theorem control_rejectCharacter (b : Bool) : (s.rejectCharacter b).control = s.control := by
  simp only [State.rejectCharacter, State.discardAssembling, State.discardFrame, State.answer]; repeat' split
  all_goals simp
@[simp] theorem clock_rejectCharacter (b : Bool) : (s.rejectCharacter b).clock = s.clock := by
  simp only [State.rejectCharacter, State.discardAssembling, State.discardFrame, State.answer]; repeat' split
  all_goals simp
@[simp] theorem plans_rejectCharacter (b : Bool) : (s.rejectCharacter b).plans = s.plans := by
  simp only [State.rejectCharacter, State.discardAssembling, State.discardFrame, State.answer]; repeat' split
  all_goals simp
@[simp] theorem sessions_rejectCharacter (b : Bool) : (s.rejectCharacter b).sessions = s.sessions := by
  simp only [State.rejectCharacter, State.discardAssembling, State.discardFrame, State.answer]; repeat' split
  all_goals simp
@[simp] theorem meters_rejectCharacter (b : Bool) : (s.rejectCharacter b).meters = s.meters := by
  simp only [State.rejectCharacter, State.discardAssembling, State.discardFrame, State.answer]; repeat' split
  all_goals simp
@[simp] theorem dispatcher_rejectCharacter (b : Bool) : (s.rejectCharacter b).dispatcher = s.dispatcher := by
  simp only [State.rejectCharacter, State.discardAssembling, State.discardFrame, State.answer]; repeat' split
  all_goals simp
@[simp] theorem pool_rejectCharacter (b : Bool) : (s.rejectCharacter b).pool = s.pool := by
  simp only [State.rejectCharacter, State.discardAssembling, State.discardFrame, State.answer]; repeat' split
  all_goals simp
@[simp] theorem closures_rejectCharacter (b : Bool) : (s.rejectCharacter b).closures = s.closures := by
  simp only [State.rejectCharacter, State.discardAssembling, State.discardFrame, State.answer]; repeat' split
  all_goals simp
@[simp] theorem notices_rejectCharacter (b : Bool) : (s.rejectCharacter b).notices = s.notices := by
  simp only [State.rejectCharacter, State.discardAssembling, State.discardFrame, State.answer]; repeat' split
  all_goals simp
@[simp] theorem ports_rejectCharacter (b : Bool) : (s.rejectCharacter b).ports = s.ports := by
  simp only [State.rejectCharacter, State.discardAssembling, State.discardFrame, State.answer]; repeat' split
  all_goals simp
@[simp] theorem pending_rejectCharacter (b : Bool) : (s.rejectCharacter b).pending = s.pending := by
  simp only [State.rejectCharacter, State.discardAssembling, State.discardFrame, State.answer]; repeat' split
  all_goals simp

/-! ### unaddressedFrame -/

@[simp] theorem held_unaddressedFrame (a : Byte) (e : FrameEnd) : (s.unaddressedFrame a e).held = s.held := by
  simp only [State.unaddressedFrame, State.countUnaddressed, State.answer]; repeat' split
  all_goals simp
@[simp] theorem control_unaddressedFrame (a : Byte) (e : FrameEnd) : (s.unaddressedFrame a e).control = s.control := by
  simp only [State.unaddressedFrame, State.countUnaddressed, State.answer]; repeat' split
  all_goals simp
@[simp] theorem clock_unaddressedFrame (a : Byte) (e : FrameEnd) : (s.unaddressedFrame a e).clock = s.clock := by
  simp only [State.unaddressedFrame, State.countUnaddressed, State.answer]; repeat' split
  all_goals simp
@[simp] theorem plans_unaddressedFrame (a : Byte) (e : FrameEnd) : (s.unaddressedFrame a e).plans = s.plans := by
  simp only [State.unaddressedFrame, State.countUnaddressed, State.answer]; repeat' split
  all_goals simp
@[simp] theorem sessions_unaddressedFrame (a : Byte) (e : FrameEnd) : (s.unaddressedFrame a e).sessions = s.sessions := by
  simp only [State.unaddressedFrame, State.countUnaddressed, State.answer]; repeat' split
  all_goals simp
@[simp] theorem meters_unaddressedFrame (a : Byte) (e : FrameEnd) : (s.unaddressedFrame a e).meters = s.meters := by
  simp only [State.unaddressedFrame, State.countUnaddressed, State.answer]; repeat' split
  all_goals simp
@[simp] theorem exchanges_unaddressedFrame (a : Byte) (e : FrameEnd) : (s.unaddressedFrame a e).exchanges = s.exchanges := by
  simp only [State.unaddressedFrame, State.countUnaddressed, State.answer]; repeat' split
  all_goals simp
@[simp] theorem dispatcher_unaddressedFrame (a : Byte) (e : FrameEnd) : (s.unaddressedFrame a e).dispatcher = s.dispatcher := by
  simp only [State.unaddressedFrame, State.countUnaddressed, State.answer]; repeat' split
  all_goals simp
@[simp] theorem pool_unaddressedFrame (a : Byte) (e : FrameEnd) : (s.unaddressedFrame a e).pool = s.pool := by
  simp only [State.unaddressedFrame, State.countUnaddressed, State.answer]; repeat' split
  all_goals simp
@[simp] theorem closures_unaddressedFrame (a : Byte) (e : FrameEnd) : (s.unaddressedFrame a e).closures = s.closures := by
  simp only [State.unaddressedFrame, State.countUnaddressed, State.answer]; repeat' split
  all_goals simp
@[simp] theorem notices_unaddressedFrame (a : Byte) (e : FrameEnd) : (s.unaddressedFrame a e).notices = s.notices := by
  simp only [State.unaddressedFrame, State.countUnaddressed, State.answer]; repeat' split
  all_goals simp
@[simp] theorem ports_unaddressedFrame (a : Byte) (e : FrameEnd) : (s.unaddressedFrame a e).ports = s.ports := by
  simp only [State.unaddressedFrame, State.countUnaddressed, State.answer]; repeat' split
  all_goals simp
@[simp] theorem pending_unaddressedFrame (a : Byte) (e : FrameEnd) : (s.unaddressedFrame a e).pending = s.pending := by
  simp only [State.unaddressedFrame, State.countUnaddressed, State.answer]; repeat' split
  all_goals simp

/-! ### unaddressedCharacter -/

@[simp] theorem held_unaddressedCharacter : (s.unaddressedCharacter).held = s.held := by
  simp only [State.unaddressedCharacter, State.countUnaddressed, State.answer]; repeat' split
  all_goals simp
@[simp] theorem control_unaddressedCharacter : (s.unaddressedCharacter).control = s.control := by
  simp only [State.unaddressedCharacter, State.countUnaddressed, State.answer]; repeat' split
  all_goals simp
@[simp] theorem clock_unaddressedCharacter : (s.unaddressedCharacter).clock = s.clock := by
  simp only [State.unaddressedCharacter, State.countUnaddressed, State.answer]; repeat' split
  all_goals simp
@[simp] theorem plans_unaddressedCharacter : (s.unaddressedCharacter).plans = s.plans := by
  simp only [State.unaddressedCharacter, State.countUnaddressed, State.answer]; repeat' split
  all_goals simp
@[simp] theorem sessions_unaddressedCharacter : (s.unaddressedCharacter).sessions = s.sessions := by
  simp only [State.unaddressedCharacter, State.countUnaddressed, State.answer]; repeat' split
  all_goals simp
@[simp] theorem meters_unaddressedCharacter : (s.unaddressedCharacter).meters = s.meters := by
  simp only [State.unaddressedCharacter, State.countUnaddressed, State.answer]; repeat' split
  all_goals simp
@[simp] theorem exchanges_unaddressedCharacter : (s.unaddressedCharacter).exchanges = s.exchanges := by
  simp only [State.unaddressedCharacter, State.countUnaddressed, State.answer]; repeat' split
  all_goals simp
@[simp] theorem dispatcher_unaddressedCharacter : (s.unaddressedCharacter).dispatcher = s.dispatcher := by
  simp only [State.unaddressedCharacter, State.countUnaddressed, State.answer]; repeat' split
  all_goals simp
@[simp] theorem pool_unaddressedCharacter : (s.unaddressedCharacter).pool = s.pool := by
  simp only [State.unaddressedCharacter, State.countUnaddressed, State.answer]; repeat' split
  all_goals simp
@[simp] theorem closures_unaddressedCharacter : (s.unaddressedCharacter).closures = s.closures := by
  simp only [State.unaddressedCharacter, State.countUnaddressed, State.answer]; repeat' split
  all_goals simp
@[simp] theorem notices_unaddressedCharacter : (s.unaddressedCharacter).notices = s.notices := by
  simp only [State.unaddressedCharacter, State.countUnaddressed, State.answer]; repeat' split
  all_goals simp
@[simp] theorem ports_unaddressedCharacter : (s.unaddressedCharacter).ports = s.ports := by
  simp only [State.unaddressedCharacter, State.countUnaddressed, State.answer]; repeat' split
  all_goals simp
@[simp] theorem pending_unaddressedCharacter : (s.unaddressedCharacter).pending = s.pending := by
  simp only [State.unaddressedCharacter, State.countUnaddressed, State.answer]; repeat' split
  all_goals simp

/-! ### openingBegin -/

@[simp] theorem held_openingBegin : (s.openingBegin).held = s.held := by
  simp only [State.openingBegin, State.answer]; repeat' split
  all_goals simp
@[simp] theorem control_openingBegin : (s.openingBegin).control = s.control := by
  simp only [State.openingBegin, State.answer]; repeat' split
  all_goals simp
@[simp] theorem clock_openingBegin : (s.openingBegin).clock = s.clock := by
  simp only [State.openingBegin, State.answer]; repeat' split
  all_goals simp
@[simp] theorem plans_openingBegin : (s.openingBegin).plans = s.plans := by
  simp only [State.openingBegin, State.answer]; repeat' split
  all_goals simp
@[simp] theorem sessions_openingBegin : (s.openingBegin).sessions = s.sessions := by
  simp only [State.openingBegin, State.answer]; repeat' split
  all_goals simp
@[simp] theorem meters_openingBegin : (s.openingBegin).meters = s.meters := by
  simp only [State.openingBegin, State.answer]; repeat' split
  all_goals simp
@[simp] theorem exchanges_openingBegin : (s.openingBegin).exchanges = s.exchanges := by
  simp only [State.openingBegin, State.answer]; repeat' split
  all_goals simp
@[simp] theorem dispatcher_openingBegin : (s.openingBegin).dispatcher = s.dispatcher := by
  simp only [State.openingBegin, State.answer]; repeat' split
  all_goals simp
@[simp] theorem pool_openingBegin : (s.openingBegin).pool = s.pool := by
  simp only [State.openingBegin, State.answer]; repeat' split
  all_goals simp
@[simp] theorem closures_openingBegin : (s.openingBegin).closures = s.closures := by
  simp only [State.openingBegin, State.answer]; repeat' split
  all_goals simp
@[simp] theorem notices_openingBegin : (s.openingBegin).notices = s.notices := by
  simp only [State.openingBegin, State.answer]; repeat' split
  all_goals simp
@[simp] theorem ports_openingBegin : (s.openingBegin).ports = s.ports := by
  simp only [State.openingBegin, State.answer]; repeat' split
  all_goals simp
@[simp] theorem pending_openingBegin : (s.openingBegin).pending = s.pending := by
  simp only [State.openingBegin, State.answer]; repeat' split
  all_goals simp

/-! ### openingEnd -/

@[simp] theorem held_openingEnd : (s.openingEnd).held = s.held := by
  simp only [State.openingEnd, State.answer]; repeat' split
  all_goals simp
@[simp] theorem control_openingEnd : (s.openingEnd).control = s.control := by
  simp only [State.openingEnd, State.answer]; repeat' split
  all_goals simp
@[simp] theorem clock_openingEnd : (s.openingEnd).clock = s.clock := by
  simp only [State.openingEnd, State.answer]; repeat' split
  all_goals simp
@[simp] theorem plans_openingEnd : (s.openingEnd).plans = s.plans := by
  simp only [State.openingEnd, State.answer]; repeat' split
  all_goals simp
@[simp] theorem sessions_openingEnd : (s.openingEnd).sessions = s.sessions := by
  simp only [State.openingEnd, State.answer]; repeat' split
  all_goals simp
@[simp] theorem meters_openingEnd : (s.openingEnd).meters = s.meters := by
  simp only [State.openingEnd, State.answer]; repeat' split
  all_goals simp
@[simp] theorem exchanges_openingEnd : (s.openingEnd).exchanges = s.exchanges := by
  simp only [State.openingEnd, State.answer]; repeat' split
  all_goals simp
@[simp] theorem dispatcher_openingEnd : (s.openingEnd).dispatcher = s.dispatcher := by
  simp only [State.openingEnd, State.answer]; repeat' split
  all_goals simp
@[simp] theorem pool_openingEnd : (s.openingEnd).pool = s.pool := by
  simp only [State.openingEnd, State.answer]; repeat' split
  all_goals simp
@[simp] theorem closures_openingEnd : (s.openingEnd).closures = s.closures := by
  simp only [State.openingEnd, State.answer]; repeat' split
  all_goals simp
@[simp] theorem notices_openingEnd : (s.openingEnd).notices = s.notices := by
  simp only [State.openingEnd, State.answer]; repeat' split
  all_goals simp
@[simp] theorem ports_openingEnd : (s.openingEnd).ports = s.ports := by
  simp only [State.openingEnd, State.answer]; repeat' split
  all_goals simp
@[simp] theorem pending_openingEnd : (s.openingEnd).pending = s.pending := by
  simp only [State.openingEnd, State.answer]; repeat' split
  all_goals simp

/-! ### replyWindowClose -/

@[simp] theorem held_replyWindowClose : (s.replyWindowClose).held = s.held := by
  simp only [State.replyWindowClose, State.answer]; repeat' split
  all_goals simp
@[simp] theorem control_replyWindowClose : (s.replyWindowClose).control = s.control := by
  simp only [State.replyWindowClose, State.answer]; repeat' split
  all_goals simp
@[simp] theorem clock_replyWindowClose : (s.replyWindowClose).clock = s.clock := by
  simp only [State.replyWindowClose, State.answer]; repeat' split
  all_goals simp
@[simp] theorem plans_replyWindowClose : (s.replyWindowClose).plans = s.plans := by
  simp only [State.replyWindowClose, State.answer]; repeat' split
  all_goals simp
@[simp] theorem sessions_replyWindowClose : (s.replyWindowClose).sessions = s.sessions := by
  simp only [State.replyWindowClose, State.answer]; repeat' split
  all_goals simp
@[simp] theorem meters_replyWindowClose : (s.replyWindowClose).meters = s.meters := by
  simp only [State.replyWindowClose, State.answer]; repeat' split
  all_goals simp
@[simp] theorem exchanges_replyWindowClose : (s.replyWindowClose).exchanges = s.exchanges := by
  simp only [State.replyWindowClose, State.answer]; repeat' split
  all_goals simp
@[simp] theorem dispatcher_replyWindowClose : (s.replyWindowClose).dispatcher = s.dispatcher := by
  simp only [State.replyWindowClose, State.answer]; repeat' split
  all_goals simp
@[simp] theorem pool_replyWindowClose : (s.replyWindowClose).pool = s.pool := by
  simp only [State.replyWindowClose, State.answer]; repeat' split
  all_goals simp
@[simp] theorem closures_replyWindowClose : (s.replyWindowClose).closures = s.closures := by
  simp only [State.replyWindowClose, State.answer]; repeat' split
  all_goals simp
@[simp] theorem notices_replyWindowClose : (s.replyWindowClose).notices = s.notices := by
  simp only [State.replyWindowClose, State.answer]; repeat' split
  all_goals simp
@[simp] theorem ports_replyWindowClose : (s.replyWindowClose).ports = s.ports := by
  simp only [State.replyWindowClose, State.answer]; repeat' split
  all_goals simp
@[simp] theorem pending_replyWindowClose : (s.replyWindowClose).pending = s.pending := by
  simp only [State.replyWindowClose, State.answer]; repeat' split
  all_goals simp

/-! ### cycleExpiry -/

@[simp] theorem held_cycleExpiry (w : Bool) : (s.cycleExpiry w).held = s.held := by
  simp only [State.cycleExpiry, State.answer]; repeat' split
  all_goals simp
@[simp] theorem clock_cycleExpiry (w : Bool) : (s.cycleExpiry w).clock = s.clock := by
  simp only [State.cycleExpiry, State.answer]; repeat' split
  all_goals simp
@[simp] theorem plans_cycleExpiry (w : Bool) : (s.cycleExpiry w).plans = s.plans := by
  simp only [State.cycleExpiry, State.answer]; repeat' split
  all_goals simp
@[simp] theorem closures_cycleExpiry (w : Bool) : (s.cycleExpiry w).closures = s.closures := by
  simp only [State.cycleExpiry, State.answer]; repeat' split
  all_goals simp
@[simp] theorem ports_cycleExpiry (w : Bool) : (s.cycleExpiry w).ports = s.ports := by
  simp only [State.cycleExpiry, State.answer]; repeat' split
  all_goals simp
@[simp] theorem pending_cycleExpiry (w : Bool) : (s.cycleExpiry w).pending = s.pending := by
  simp only [State.cycleExpiry, State.answer]; repeat' split
  all_goals simp

/-! ### takePulse -/

@[simp] theorem held_takePulse (o : Outlet) : (s.takePulse o).held = s.held := by
  simp only [State.takePulse, State.answer]; repeat' split
  all_goals simp
@[simp] theorem control_takePulse (o : Outlet) : (s.takePulse o).control = s.control := by
  simp only [State.takePulse, State.answer]; repeat' split
  all_goals simp
@[simp] theorem clock_takePulse (o : Outlet) : (s.takePulse o).clock = s.clock := by
  simp only [State.takePulse, State.answer]; repeat' split
  all_goals simp
@[simp] theorem plans_takePulse (o : Outlet) : (s.takePulse o).plans = s.plans := by
  simp only [State.takePulse, State.answer]; repeat' split
  all_goals simp
@[simp] theorem line_takePulse (o : Outlet) : (s.takePulse o).line = s.line := by
  simp only [State.takePulse, State.answer]; repeat' split
  all_goals simp
@[simp] theorem exchanges_takePulse (o : Outlet) : (s.takePulse o).exchanges = s.exchanges := by
  simp only [State.takePulse, State.answer]; repeat' split
  all_goals simp
@[simp] theorem dispatcher_takePulse (o : Outlet) : (s.takePulse o).dispatcher = s.dispatcher := by
  simp only [State.takePulse, State.answer]; repeat' split
  all_goals simp
@[simp] theorem closures_takePulse (o : Outlet) : (s.takePulse o).closures = s.closures := by
  simp only [State.takePulse, State.answer]; repeat' split
  all_goals simp
@[simp] theorem ports_takePulse (o : Outlet) : (s.takePulse o).ports = s.ports := by
  simp only [State.takePulse, State.answer]; repeat' split
  all_goals simp
@[simp] theorem pending_takePulse (o : Outlet) : (s.takePulse o).pending = s.pending := by
  simp only [State.takePulse, State.answer]; repeat' split
  all_goals simp

/-! ### endRunt -/

@[simp] theorem held_endRunt (o : Outlet) : (s.endRunt o).held = s.held := by
  simp only [State.endRunt, State.answer]; repeat' split
  all_goals simp
@[simp] theorem control_endRunt (o : Outlet) : (s.endRunt o).control = s.control := by
  simp only [State.endRunt, State.answer]; repeat' split
  all_goals simp
@[simp] theorem clock_endRunt (o : Outlet) : (s.endRunt o).clock = s.clock := by
  simp only [State.endRunt, State.answer]; repeat' split
  all_goals simp
@[simp] theorem plans_endRunt (o : Outlet) : (s.endRunt o).plans = s.plans := by
  simp only [State.endRunt, State.answer]; repeat' split
  all_goals simp
@[simp] theorem sessions_endRunt (o : Outlet) : (s.endRunt o).sessions = s.sessions := by
  simp only [State.endRunt, State.answer]; repeat' split
  all_goals simp
@[simp] theorem line_endRunt (o : Outlet) : (s.endRunt o).line = s.line := by
  simp only [State.endRunt, State.answer]; repeat' split
  all_goals simp
@[simp] theorem exchanges_endRunt (o : Outlet) : (s.endRunt o).exchanges = s.exchanges := by
  simp only [State.endRunt, State.answer]; repeat' split
  all_goals simp
@[simp] theorem dispatcher_endRunt (o : Outlet) : (s.endRunt o).dispatcher = s.dispatcher := by
  simp only [State.endRunt, State.answer]; repeat' split
  all_goals simp
@[simp] theorem pool_endRunt (o : Outlet) : (s.endRunt o).pool = s.pool := by
  simp only [State.endRunt, State.answer]; repeat' split
  all_goals simp
@[simp] theorem closures_endRunt (o : Outlet) : (s.endRunt o).closures = s.closures := by
  simp only [State.endRunt, State.answer]; repeat' split
  all_goals simp
@[simp] theorem notices_endRunt (o : Outlet) : (s.endRunt o).notices = s.notices := by
  simp only [State.endRunt, State.answer]; repeat' split
  all_goals simp
@[simp] theorem ports_endRunt (o : Outlet) : (s.endRunt o).ports = s.ports := by
  simp only [State.endRunt, State.answer]; repeat' split
  all_goals simp
@[simp] theorem pending_endRunt (o : Outlet) : (s.endRunt o).pending = s.pending := by
  simp only [State.endRunt, State.answer]; repeat' split
  all_goals simp

/-! ### leadingEdge -/

@[simp] theorem held_leadingEdge (o : Outlet) : (s.leadingEdge o).held = s.held := by
  simp only [State.leadingEdge, State.answer]; repeat' split
  all_goals simp
@[simp] theorem control_leadingEdge (o : Outlet) : (s.leadingEdge o).control = s.control := by
  simp only [State.leadingEdge, State.answer]; repeat' split
  all_goals simp
@[simp] theorem clock_leadingEdge (o : Outlet) : (s.leadingEdge o).clock = s.clock := by
  simp only [State.leadingEdge, State.answer]; repeat' split
  all_goals simp
@[simp] theorem plans_leadingEdge (o : Outlet) : (s.leadingEdge o).plans = s.plans := by
  simp only [State.leadingEdge, State.answer]; repeat' split
  all_goals simp
@[simp] theorem sessions_leadingEdge (o : Outlet) : (s.leadingEdge o).sessions = s.sessions := by
  simp only [State.leadingEdge, State.answer]; repeat' split
  all_goals simp
@[simp] theorem line_leadingEdge (o : Outlet) : (s.leadingEdge o).line = s.line := by
  simp only [State.leadingEdge, State.answer]; repeat' split
  all_goals simp
@[simp] theorem exchanges_leadingEdge (o : Outlet) : (s.leadingEdge o).exchanges = s.exchanges := by
  simp only [State.leadingEdge, State.answer]; repeat' split
  all_goals simp
@[simp] theorem dispatcher_leadingEdge (o : Outlet) : (s.leadingEdge o).dispatcher = s.dispatcher := by
  simp only [State.leadingEdge, State.answer]; repeat' split
  all_goals simp
@[simp] theorem pool_leadingEdge (o : Outlet) : (s.leadingEdge o).pool = s.pool := by
  simp only [State.leadingEdge, State.answer]; repeat' split
  all_goals simp
@[simp] theorem closures_leadingEdge (o : Outlet) : (s.leadingEdge o).closures = s.closures := by
  simp only [State.leadingEdge, State.answer]; repeat' split
  all_goals simp
@[simp] theorem notices_leadingEdge (o : Outlet) : (s.leadingEdge o).notices = s.notices := by
  simp only [State.leadingEdge, State.answer]; repeat' split
  all_goals simp
@[simp] theorem ports_leadingEdge (o : Outlet) : (s.leadingEdge o).ports = s.ports := by
  simp only [State.leadingEdge, State.answer]; repeat' split
  all_goals simp
@[simp] theorem pending_leadingEdge (o : Outlet) : (s.leadingEdge o).pending = s.pending := by
  simp only [State.leadingEdge, State.answer]; repeat' split
  all_goals simp

/-! ### inputHigh -/

@[simp] theorem held_inputHigh (o : Outlet) : (s.inputHigh o).held = s.held := by
  simp only [State.inputHigh, State.answer]; repeat' split
  all_goals simp
@[simp] theorem control_inputHigh (o : Outlet) : (s.inputHigh o).control = s.control := by
  simp only [State.inputHigh, State.answer]; repeat' split
  all_goals simp
@[simp] theorem clock_inputHigh (o : Outlet) : (s.inputHigh o).clock = s.clock := by
  simp only [State.inputHigh, State.answer]; repeat' split
  all_goals simp
@[simp] theorem plans_inputHigh (o : Outlet) : (s.inputHigh o).plans = s.plans := by
  simp only [State.inputHigh, State.answer]; repeat' split
  all_goals simp
@[simp] theorem sessions_inputHigh (o : Outlet) : (s.inputHigh o).sessions = s.sessions := by
  simp only [State.inputHigh, State.answer]; repeat' split
  all_goals simp
@[simp] theorem line_inputHigh (o : Outlet) : (s.inputHigh o).line = s.line := by
  simp only [State.inputHigh, State.answer]; repeat' split
  all_goals simp
@[simp] theorem exchanges_inputHigh (o : Outlet) : (s.inputHigh o).exchanges = s.exchanges := by
  simp only [State.inputHigh, State.answer]; repeat' split
  all_goals simp
@[simp] theorem dispatcher_inputHigh (o : Outlet) : (s.inputHigh o).dispatcher = s.dispatcher := by
  simp only [State.inputHigh, State.answer]; repeat' split
  all_goals simp
@[simp] theorem pool_inputHigh (o : Outlet) : (s.inputHigh o).pool = s.pool := by
  simp only [State.inputHigh, State.answer]; repeat' split
  all_goals simp
@[simp] theorem closures_inputHigh (o : Outlet) : (s.inputHigh o).closures = s.closures := by
  simp only [State.inputHigh, State.answer]; repeat' split
  all_goals simp
@[simp] theorem notices_inputHigh (o : Outlet) : (s.inputHigh o).notices = s.notices := by
  simp only [State.inputHigh, State.answer]; repeat' split
  all_goals simp
@[simp] theorem ports_inputHigh (o : Outlet) : (s.inputHigh o).ports = s.ports := by
  simp only [State.inputHigh, State.answer]; repeat' split
  all_goals simp
@[simp] theorem pending_inputHigh (o : Outlet) : (s.inputHigh o).pending = s.pending := by
  simp only [State.inputHigh, State.answer]; repeat' split
  all_goals simp

/-! ### armDeadline -/

@[simp] theorem held_armDeadline (o : Outlet) : (s.armDeadline o).held = s.held := by
  simp only [State.armDeadline, State.answer]; repeat' split
  all_goals simp
@[simp] theorem control_armDeadline (o : Outlet) : (s.armDeadline o).control = s.control := by
  simp only [State.armDeadline, State.answer]; repeat' split
  all_goals simp
@[simp] theorem clock_armDeadline (o : Outlet) : (s.armDeadline o).clock = s.clock := by
  simp only [State.armDeadline, State.answer]; repeat' split
  all_goals simp
@[simp] theorem plans_armDeadline (o : Outlet) : (s.armDeadline o).plans = s.plans := by
  simp only [State.armDeadline, State.answer]; repeat' split
  all_goals simp
@[simp] theorem meters_armDeadline (o : Outlet) : (s.armDeadline o).meters = s.meters := by
  simp only [State.armDeadline, State.answer]; repeat' split
  all_goals simp
@[simp] theorem line_armDeadline (o : Outlet) : (s.armDeadline o).line = s.line := by
  simp only [State.armDeadline, State.answer]; repeat' split
  all_goals simp
@[simp] theorem exchanges_armDeadline (o : Outlet) : (s.armDeadline o).exchanges = s.exchanges := by
  simp only [State.armDeadline, State.answer]; repeat' split
  all_goals simp
@[simp] theorem dispatcher_armDeadline (o : Outlet) : (s.armDeadline o).dispatcher = s.dispatcher := by
  simp only [State.armDeadline, State.answer]; repeat' split
  all_goals simp
@[simp] theorem closures_armDeadline (o : Outlet) : (s.armDeadline o).closures = s.closures := by
  simp only [State.armDeadline, State.answer]; repeat' split
  all_goals simp
@[simp] theorem ports_armDeadline (o : Outlet) : (s.armDeadline o).ports = s.ports := by
  simp only [State.armDeadline, State.answer]; repeat' split
  all_goals simp
@[simp] theorem pending_armDeadline (o : Outlet) : (s.armDeadline o).pending = s.pending := by
  simp only [State.armDeadline, State.answer]; repeat' split
  all_goals simp

/-! ### suspendDeadline -/

@[simp] theorem held_suspendDeadline (o : Outlet) : (s.suspendDeadline o).held = s.held := by
  simp only [State.suspendDeadline, State.answer]; repeat' split
  all_goals simp
@[simp] theorem control_suspendDeadline (o : Outlet) : (s.suspendDeadline o).control = s.control := by
  simp only [State.suspendDeadline, State.answer]; repeat' split
  all_goals simp
@[simp] theorem clock_suspendDeadline (o : Outlet) : (s.suspendDeadline o).clock = s.clock := by
  simp only [State.suspendDeadline, State.answer]; repeat' split
  all_goals simp
@[simp] theorem plans_suspendDeadline (o : Outlet) : (s.suspendDeadline o).plans = s.plans := by
  simp only [State.suspendDeadline, State.answer]; repeat' split
  all_goals simp
@[simp] theorem meters_suspendDeadline (o : Outlet) : (s.suspendDeadline o).meters = s.meters := by
  simp only [State.suspendDeadline, State.answer]; repeat' split
  all_goals simp
@[simp] theorem line_suspendDeadline (o : Outlet) : (s.suspendDeadline o).line = s.line := by
  simp only [State.suspendDeadline, State.answer]; repeat' split
  all_goals simp
@[simp] theorem exchanges_suspendDeadline (o : Outlet) : (s.suspendDeadline o).exchanges = s.exchanges := by
  simp only [State.suspendDeadline, State.answer]; repeat' split
  all_goals simp
@[simp] theorem dispatcher_suspendDeadline (o : Outlet) : (s.suspendDeadline o).dispatcher = s.dispatcher := by
  simp only [State.suspendDeadline, State.answer]; repeat' split
  all_goals simp
@[simp] theorem closures_suspendDeadline (o : Outlet) : (s.suspendDeadline o).closures = s.closures := by
  simp only [State.suspendDeadline, State.answer]; repeat' split
  all_goals simp
@[simp] theorem ports_suspendDeadline (o : Outlet) : (s.suspendDeadline o).ports = s.ports := by
  simp only [State.suspendDeadline, State.answer]; repeat' split
  all_goals simp
@[simp] theorem pending_suspendDeadline (o : Outlet) : (s.suspendDeadline o).pending = s.pending := by
  simp only [State.suspendDeadline, State.answer]; repeat' split
  all_goals simp

/-! ### settleDeadline -/

@[simp] theorem held_settleDeadline (o : Outlet) : (s.settleDeadline o).held = s.held := by
  simp only [State.settleDeadline, State.offer, State.answer]; repeat' split
  all_goals simp
@[simp] theorem control_settleDeadline (o : Outlet) : (s.settleDeadline o).control = s.control := by
  simp only [State.settleDeadline, State.offer, State.answer]; repeat' split
  all_goals simp
@[simp] theorem clock_settleDeadline (o : Outlet) : (s.settleDeadline o).clock = s.clock := by
  simp only [State.settleDeadline, State.offer, State.answer]; repeat' split
  all_goals simp
@[simp] theorem plans_settleDeadline (o : Outlet) : (s.settleDeadline o).plans = s.plans := by
  simp only [State.settleDeadline, State.offer, State.answer]; repeat' split
  all_goals simp
@[simp] theorem meters_settleDeadline (o : Outlet) : (s.settleDeadline o).meters = s.meters := by
  simp only [State.settleDeadline, State.offer, State.answer]; repeat' split
  all_goals simp
@[simp] theorem line_settleDeadline (o : Outlet) : (s.settleDeadline o).line = s.line := by
  simp only [State.settleDeadline, State.offer, State.answer]; repeat' split
  all_goals simp
@[simp] theorem exchanges_settleDeadline (o : Outlet) : (s.settleDeadline o).exchanges = s.exchanges := by
  simp only [State.settleDeadline, State.offer, State.answer]; repeat' split
  all_goals simp
@[simp] theorem dispatcher_settleDeadline (o : Outlet) : (s.settleDeadline o).dispatcher = s.dispatcher := by
  simp only [State.settleDeadline, State.offer, State.answer]; repeat' split
  all_goals simp
@[simp] theorem pool_settleDeadline (o : Outlet) : (s.settleDeadline o).pool = s.pool := by
  simp only [State.settleDeadline, State.offer, State.answer]; repeat' split
  all_goals simp
@[simp] theorem ports_settleDeadline (o : Outlet) : (s.settleDeadline o).ports = s.ports := by
  simp only [State.settleDeadline, State.offer, State.answer]; repeat' split
  all_goals simp
@[simp] theorem pending_settleDeadline (o : Outlet) : (s.settleDeadline o).pending = s.pending := by
  simp only [State.settleDeadline, State.offer, State.answer]; repeat' split
  all_goals simp

/-! ### idleAccrual -/

@[simp] theorem held_idleAccrual (o : Outlet) : (s.idleAccrual o).held = s.held := by
  simp only [State.idleAccrual, State.answer]; repeat' split
  all_goals simp
@[simp] theorem control_idleAccrual (o : Outlet) : (s.idleAccrual o).control = s.control := by
  simp only [State.idleAccrual, State.answer]; repeat' split
  all_goals simp
@[simp] theorem clock_idleAccrual (o : Outlet) : (s.idleAccrual o).clock = s.clock := by
  simp only [State.idleAccrual, State.answer]; repeat' split
  all_goals simp
@[simp] theorem plans_idleAccrual (o : Outlet) : (s.idleAccrual o).plans = s.plans := by
  simp only [State.idleAccrual, State.answer]; repeat' split
  all_goals simp
@[simp] theorem meters_idleAccrual (o : Outlet) : (s.idleAccrual o).meters = s.meters := by
  simp only [State.idleAccrual, State.answer]; repeat' split
  all_goals simp
@[simp] theorem line_idleAccrual (o : Outlet) : (s.idleAccrual o).line = s.line := by
  simp only [State.idleAccrual, State.answer]; repeat' split
  all_goals simp
@[simp] theorem exchanges_idleAccrual (o : Outlet) : (s.idleAccrual o).exchanges = s.exchanges := by
  simp only [State.idleAccrual, State.answer]; repeat' split
  all_goals simp
@[simp] theorem dispatcher_idleAccrual (o : Outlet) : (s.idleAccrual o).dispatcher = s.dispatcher := by
  simp only [State.idleAccrual, State.answer]; repeat' split
  all_goals simp
@[simp] theorem closures_idleAccrual (o : Outlet) : (s.idleAccrual o).closures = s.closures := by
  simp only [State.idleAccrual, State.answer]; repeat' split
  all_goals simp
@[simp] theorem ports_idleAccrual (o : Outlet) : (s.idleAccrual o).ports = s.ports := by
  simp only [State.idleAccrual, State.answer]; repeat' split
  all_goals simp
@[simp] theorem pending_idleAccrual (o : Outlet) : (s.idleAccrual o).pending = s.pending := by
  simp only [State.idleAccrual, State.answer]; repeat' split
  all_goals simp

/-! ### millisecond -/

@[simp] theorem held_millisecond : (s.millisecond).held = s.held := by
  simp only [State.millisecond, State.answer]; repeat' split
  all_goals simp
@[simp] theorem control_millisecond : (s.millisecond).control = s.control := by
  simp only [State.millisecond, State.answer]; repeat' split
  all_goals simp
@[simp] theorem plans_millisecond : (s.millisecond).plans = s.plans := by
  simp only [State.millisecond, State.answer]; repeat' split
  all_goals simp
@[simp] theorem line_millisecond : (s.millisecond).line = s.line := by
  simp only [State.millisecond, State.answer]; repeat' split
  all_goals simp
@[simp] theorem exchanges_millisecond : (s.millisecond).exchanges = s.exchanges := by
  simp only [State.millisecond, State.answer]; repeat' split
  all_goals simp
@[simp] theorem dispatcher_millisecond : (s.millisecond).dispatcher = s.dispatcher := by
  simp only [State.millisecond, State.answer]; repeat' split
  all_goals simp
@[simp] theorem pool_millisecond : (s.millisecond).pool = s.pool := by
  simp only [State.millisecond, State.answer]; repeat' split
  all_goals simp
@[simp] theorem closures_millisecond : (s.millisecond).closures = s.closures := by
  simp only [State.millisecond, State.answer]; repeat' split
  all_goals simp
@[simp] theorem notices_millisecond : (s.millisecond).notices = s.notices := by
  simp only [State.millisecond, State.answer]; repeat' split
  all_goals simp
@[simp] theorem ports_millisecond : (s.millisecond).ports = s.ports := by
  simp only [State.millisecond, State.answer]; repeat' split
  all_goals simp
@[simp] theorem pending_millisecond : (s.millisecond).pending = s.pending := by
  simp only [State.millisecond, State.answer]; repeat' split
  all_goals simp

/-! ### enterHoldover -/

@[simp] theorem held_enterHoldover : (s.enterHoldover).held = s.held := by
  simp only [State.enterHoldover, State.flagLive, State.answer]; repeat' split
  all_goals simp
@[simp] theorem control_enterHoldover : (s.enterHoldover).control = s.control := by
  simp only [State.enterHoldover, State.flagLive, State.answer]; repeat' split
  all_goals simp
@[simp] theorem plans_enterHoldover : (s.enterHoldover).plans = s.plans := by
  simp only [State.enterHoldover, State.flagLive, State.answer]; repeat' split
  all_goals simp
@[simp] theorem meters_enterHoldover : (s.enterHoldover).meters = s.meters := by
  simp only [State.enterHoldover, State.flagLive, State.answer]; repeat' split
  all_goals simp
@[simp] theorem line_enterHoldover : (s.enterHoldover).line = s.line := by
  simp only [State.enterHoldover, State.flagLive, State.answer]; repeat' split
  all_goals simp
@[simp] theorem exchanges_enterHoldover : (s.enterHoldover).exchanges = s.exchanges := by
  simp only [State.enterHoldover, State.flagLive, State.answer]; repeat' split
  all_goals simp
@[simp] theorem dispatcher_enterHoldover : (s.enterHoldover).dispatcher = s.dispatcher := by
  simp only [State.enterHoldover, State.flagLive, State.answer]; repeat' split
  all_goals simp
@[simp] theorem pool_enterHoldover : (s.enterHoldover).pool = s.pool := by
  simp only [State.enterHoldover, State.flagLive, State.answer]; repeat' split
  all_goals simp
@[simp] theorem closures_enterHoldover : (s.enterHoldover).closures = s.closures := by
  simp only [State.enterHoldover, State.flagLive, State.answer]; repeat' split
  all_goals simp
@[simp] theorem ports_enterHoldover : (s.enterHoldover).ports = s.ports := by
  simp only [State.enterHoldover, State.flagLive, State.answer]; repeat' split
  all_goals simp
@[simp] theorem pending_enterHoldover : (s.enterHoldover).pending = s.pending := by
  simp only [State.enterHoldover, State.flagLive, State.answer]; repeat' split
  all_goals simp

/-! ### targetExpiry -/

@[simp] theorem held_targetExpiry : (s.targetExpiry).held = s.held := by
  simp only [State.targetExpiry, State.answer]; repeat' split
  all_goals simp
@[simp] theorem control_targetExpiry : (s.targetExpiry).control = s.control := by
  simp only [State.targetExpiry, State.answer]; repeat' split
  all_goals simp
@[simp] theorem clock_targetExpiry : (s.targetExpiry).clock = s.clock := by
  simp only [State.targetExpiry, State.answer]; repeat' split
  all_goals simp
@[simp] theorem plans_targetExpiry : (s.targetExpiry).plans = s.plans := by
  simp only [State.targetExpiry, State.answer]; repeat' split
  all_goals simp
@[simp] theorem sessions_targetExpiry : (s.targetExpiry).sessions = s.sessions := by
  simp only [State.targetExpiry, State.answer]; repeat' split
  all_goals simp
@[simp] theorem meters_targetExpiry : (s.targetExpiry).meters = s.meters := by
  simp only [State.targetExpiry, State.answer]; repeat' split
  all_goals simp
@[simp] theorem line_targetExpiry : (s.targetExpiry).line = s.line := by
  simp only [State.targetExpiry, State.answer]; repeat' split
  all_goals simp
@[simp] theorem exchanges_targetExpiry : (s.targetExpiry).exchanges = s.exchanges := by
  simp only [State.targetExpiry, State.answer]; repeat' split
  all_goals simp
@[simp] theorem pool_targetExpiry : (s.targetExpiry).pool = s.pool := by
  simp only [State.targetExpiry, State.answer]; repeat' split
  all_goals simp
@[simp] theorem closures_targetExpiry : (s.targetExpiry).closures = s.closures := by
  simp only [State.targetExpiry, State.answer]; repeat' split
  all_goals simp
@[simp] theorem ports_targetExpiry : (s.targetExpiry).ports = s.ports := by
  simp only [State.targetExpiry, State.answer]; repeat' split
  all_goals simp
@[simp] theorem pending_targetExpiry : (s.targetExpiry).pending = s.pending := by
  simp only [State.targetExpiry, State.answer]; repeat' split
  all_goals simp

/-! ### switchTimeout -/

@[simp] theorem held_switchTimeout (m : ModuleNo) : (s.switchTimeout m).held = s.held := by
  simp only [State.switchTimeout, State.answer]; repeat' split
  all_goals simp
@[simp] theorem control_switchTimeout (m : ModuleNo) : (s.switchTimeout m).control = s.control := by
  simp only [State.switchTimeout, State.answer]; repeat' split
  all_goals simp
@[simp] theorem clock_switchTimeout (m : ModuleNo) : (s.switchTimeout m).clock = s.clock := by
  simp only [State.switchTimeout, State.answer]; repeat' split
  all_goals simp
@[simp] theorem plans_switchTimeout (m : ModuleNo) : (s.switchTimeout m).plans = s.plans := by
  simp only [State.switchTimeout, State.answer]; repeat' split
  all_goals simp
@[simp] theorem meters_switchTimeout (m : ModuleNo) : (s.switchTimeout m).meters = s.meters := by
  simp only [State.switchTimeout, State.answer]; repeat' split
  all_goals simp
@[simp] theorem line_switchTimeout (m : ModuleNo) : (s.switchTimeout m).line = s.line := by
  simp only [State.switchTimeout, State.answer]; repeat' split
  all_goals simp
@[simp] theorem exchanges_switchTimeout (m : ModuleNo) : (s.switchTimeout m).exchanges = s.exchanges := by
  simp only [State.switchTimeout, State.answer]; repeat' split
  all_goals simp
@[simp] theorem dispatcher_switchTimeout (m : ModuleNo) : (s.switchTimeout m).dispatcher = s.dispatcher := by
  simp only [State.switchTimeout, State.answer]; repeat' split
  all_goals simp
@[simp] theorem closures_switchTimeout (m : ModuleNo) : (s.switchTimeout m).closures = s.closures := by
  simp only [State.switchTimeout, State.answer]; repeat' split
  all_goals simp
@[simp] theorem ports_switchTimeout (m : ModuleNo) : (s.switchTimeout m).ports = s.ports := by
  simp only [State.switchTimeout, State.answer]; repeat' split
  all_goals simp
@[simp] theorem pending_switchTimeout (m : ModuleNo) : (s.switchTimeout m).pending = s.pending := by
  simp only [State.switchTimeout, State.answer]; repeat' split
  all_goals simp

/-! ### warmUpDeadline -/

@[simp] theorem held_warmUpDeadline (m : ModuleNo) : (s.warmUpDeadline m).held = s.held := by
  simp only [State.warmUpDeadline, State.answer]; repeat' split
  all_goals simp
@[simp] theorem control_warmUpDeadline (m : ModuleNo) : (s.warmUpDeadline m).control = s.control := by
  simp only [State.warmUpDeadline, State.answer]; repeat' split
  all_goals simp
@[simp] theorem clock_warmUpDeadline (m : ModuleNo) : (s.warmUpDeadline m).clock = s.clock := by
  simp only [State.warmUpDeadline, State.answer]; repeat' split
  all_goals simp
@[simp] theorem plans_warmUpDeadline (m : ModuleNo) : (s.warmUpDeadline m).plans = s.plans := by
  simp only [State.warmUpDeadline, State.answer]; repeat' split
  all_goals simp
@[simp] theorem sessions_warmUpDeadline (m : ModuleNo) : (s.warmUpDeadline m).sessions = s.sessions := by
  simp only [State.warmUpDeadline, State.answer]; repeat' split
  all_goals simp
@[simp] theorem meters_warmUpDeadline (m : ModuleNo) : (s.warmUpDeadline m).meters = s.meters := by
  simp only [State.warmUpDeadline, State.answer]; repeat' split
  all_goals simp
@[simp] theorem line_warmUpDeadline (m : ModuleNo) : (s.warmUpDeadline m).line = s.line := by
  simp only [State.warmUpDeadline, State.answer]; repeat' split
  all_goals simp
@[simp] theorem exchanges_warmUpDeadline (m : ModuleNo) : (s.warmUpDeadline m).exchanges = s.exchanges := by
  simp only [State.warmUpDeadline, State.answer]; repeat' split
  all_goals simp
@[simp] theorem dispatcher_warmUpDeadline (m : ModuleNo) : (s.warmUpDeadline m).dispatcher = s.dispatcher := by
  simp only [State.warmUpDeadline, State.answer]; repeat' split
  all_goals simp
@[simp] theorem closures_warmUpDeadline (m : ModuleNo) : (s.warmUpDeadline m).closures = s.closures := by
  simp only [State.warmUpDeadline, State.answer]; repeat' split
  all_goals simp
@[simp] theorem notices_warmUpDeadline (m : ModuleNo) : (s.warmUpDeadline m).notices = s.notices := by
  simp only [State.warmUpDeadline, State.answer]; repeat' split
  all_goals simp
@[simp] theorem ports_warmUpDeadline (m : ModuleNo) : (s.warmUpDeadline m).ports = s.ports := by
  simp only [State.warmUpDeadline, State.answer]; repeat' split
  all_goals simp
@[simp] theorem pending_warmUpDeadline (m : ModuleNo) : (s.warmUpDeadline m).pending = s.pending := by
  simp only [State.warmUpDeadline, State.answer]; repeat' split
  all_goals simp

/-! ### drainDeadline -/

@[simp] theorem held_drainDeadline (m : ModuleNo) : (s.drainDeadline m).held = s.held := by
  simp only [State.drainDeadline, State.answer]; repeat' split
  all_goals simp
@[simp] theorem control_drainDeadline (m : ModuleNo) : (s.drainDeadline m).control = s.control := by
  simp only [State.drainDeadline, State.answer]; repeat' split
  all_goals simp
@[simp] theorem clock_drainDeadline (m : ModuleNo) : (s.drainDeadline m).clock = s.clock := by
  simp only [State.drainDeadline, State.answer]; repeat' split
  all_goals simp
@[simp] theorem plans_drainDeadline (m : ModuleNo) : (s.drainDeadline m).plans = s.plans := by
  simp only [State.drainDeadline, State.answer]; repeat' split
  all_goals simp
@[simp] theorem sessions_drainDeadline (m : ModuleNo) : (s.drainDeadline m).sessions = s.sessions := by
  simp only [State.drainDeadline, State.answer]; repeat' split
  all_goals simp
@[simp] theorem meters_drainDeadline (m : ModuleNo) : (s.drainDeadline m).meters = s.meters := by
  simp only [State.drainDeadline, State.answer]; repeat' split
  all_goals simp
@[simp] theorem line_drainDeadline (m : ModuleNo) : (s.drainDeadline m).line = s.line := by
  simp only [State.drainDeadline, State.answer]; repeat' split
  all_goals simp
@[simp] theorem exchanges_drainDeadline (m : ModuleNo) : (s.drainDeadline m).exchanges = s.exchanges := by
  simp only [State.drainDeadline, State.answer]; repeat' split
  all_goals simp
@[simp] theorem dispatcher_drainDeadline (m : ModuleNo) : (s.drainDeadline m).dispatcher = s.dispatcher := by
  simp only [State.drainDeadline, State.answer]; repeat' split
  all_goals simp
@[simp] theorem closures_drainDeadline (m : ModuleNo) : (s.drainDeadline m).closures = s.closures := by
  simp only [State.drainDeadline, State.answer]; repeat' split
  all_goals simp
@[simp] theorem notices_drainDeadline (m : ModuleNo) : (s.drainDeadline m).notices = s.notices := by
  simp only [State.drainDeadline, State.answer]; repeat' split
  all_goals simp
@[simp] theorem ports_drainDeadline (m : ModuleNo) : (s.drainDeadline m).ports = s.ports := by
  simp only [State.drainDeadline, State.answer]; repeat' split
  all_goals simp
@[simp] theorem pending_drainDeadline (m : ModuleNo) : (s.drainDeadline m).pending = s.pending := by
  simp only [State.drainDeadline, State.answer]; repeat' split
  all_goals simp

/-! ### openingTimeout -/

@[simp] theorem held_openingTimeout (m : ModuleNo) : (s.openingTimeout m).held = s.held := by
  simp only [State.openingTimeout, State.answer]; repeat' split
  all_goals simp
@[simp] theorem control_openingTimeout (m : ModuleNo) : (s.openingTimeout m).control = s.control := by
  simp only [State.openingTimeout, State.answer]; repeat' split
  all_goals simp
@[simp] theorem clock_openingTimeout (m : ModuleNo) : (s.openingTimeout m).clock = s.clock := by
  simp only [State.openingTimeout, State.answer]; repeat' split
  all_goals simp
@[simp] theorem plans_openingTimeout (m : ModuleNo) : (s.openingTimeout m).plans = s.plans := by
  simp only [State.openingTimeout, State.answer]; repeat' split
  all_goals simp
@[simp] theorem meters_openingTimeout (m : ModuleNo) : (s.openingTimeout m).meters = s.meters := by
  simp only [State.openingTimeout, State.answer]; repeat' split
  all_goals simp
@[simp] theorem line_openingTimeout (m : ModuleNo) : (s.openingTimeout m).line = s.line := by
  simp only [State.openingTimeout, State.answer]; repeat' split
  all_goals simp
@[simp] theorem exchanges_openingTimeout (m : ModuleNo) : (s.openingTimeout m).exchanges = s.exchanges := by
  simp only [State.openingTimeout, State.answer]; repeat' split
  all_goals simp
@[simp] theorem dispatcher_openingTimeout (m : ModuleNo) : (s.openingTimeout m).dispatcher = s.dispatcher := by
  simp only [State.openingTimeout, State.answer]; repeat' split
  all_goals simp
@[simp] theorem closures_openingTimeout (m : ModuleNo) : (s.openingTimeout m).closures = s.closures := by
  simp only [State.openingTimeout, State.answer]; repeat' split
  all_goals simp
@[simp] theorem ports_openingTimeout (m : ModuleNo) : (s.openingTimeout m).ports = s.ports := by
  simp only [State.openingTimeout, State.answer]; repeat' split
  all_goals simp
@[simp] theorem pending_openingTimeout (m : ModuleNo) : (s.openingTimeout m).pending = s.pending := by
  simp only [State.openingTimeout, State.answer]; repeat' split
  all_goals simp

/-! ### lineSeenHigh -/

@[simp] theorem held_lineSeenHigh : (s.lineSeenHigh).held = s.held := by
  simp only [State.lineSeenHigh, State.answer]; repeat' split
  all_goals simp
@[simp] theorem control_lineSeenHigh : (s.lineSeenHigh).control = s.control := by
  simp only [State.lineSeenHigh, State.answer]; repeat' split
  all_goals simp
@[simp] theorem clock_lineSeenHigh : (s.lineSeenHigh).clock = s.clock := by
  simp only [State.lineSeenHigh, State.answer]; repeat' split
  all_goals simp
@[simp] theorem plans_lineSeenHigh : (s.lineSeenHigh).plans = s.plans := by
  simp only [State.lineSeenHigh, State.answer]; repeat' split
  all_goals simp
@[simp] theorem sessions_lineSeenHigh : (s.lineSeenHigh).sessions = s.sessions := by
  simp only [State.lineSeenHigh, State.answer]; repeat' split
  all_goals simp
@[simp] theorem meters_lineSeenHigh : (s.lineSeenHigh).meters = s.meters := by
  simp only [State.lineSeenHigh, State.answer]; repeat' split
  all_goals simp
@[simp] theorem exchanges_lineSeenHigh : (s.lineSeenHigh).exchanges = s.exchanges := by
  simp only [State.lineSeenHigh, State.answer]; repeat' split
  all_goals simp
@[simp] theorem dispatcher_lineSeenHigh : (s.lineSeenHigh).dispatcher = s.dispatcher := by
  simp only [State.lineSeenHigh, State.answer]; repeat' split
  all_goals simp
@[simp] theorem pool_lineSeenHigh : (s.lineSeenHigh).pool = s.pool := by
  simp only [State.lineSeenHigh, State.answer]; repeat' split
  all_goals simp
@[simp] theorem closures_lineSeenHigh : (s.lineSeenHigh).closures = s.closures := by
  simp only [State.lineSeenHigh, State.answer]; repeat' split
  all_goals simp
@[simp] theorem notices_lineSeenHigh : (s.lineSeenHigh).notices = s.notices := by
  simp only [State.lineSeenHigh, State.answer]; repeat' split
  all_goals simp
@[simp] theorem ports_lineSeenHigh : (s.lineSeenHigh).ports = s.ports := by
  simp only [State.lineSeenHigh, State.answer]; repeat' split
  all_goals simp
@[simp] theorem pending_lineSeenHigh : (s.lineSeenHigh).pending = s.pending := by
  simp only [State.lineSeenHigh, State.answer]; repeat' split
  all_goals simp

end Sys2Proof.Machine
end

