-- ==== Sys2Proof/Laws/Operations.lean ====
section
/-! SUPPORT. What the shared operations do, said once each: lists of outlets and modules, operand forms, the receivers, the cabinet
queue, releases of modules and the entry into STOPPING. -/

namespace Sys2Proof.Laws

open Sys2Proof.Machine Sys2Proof.Safety

/-! ### The numbered things -/

theorem mem_allOutlets (o : Outlet) : o ∈ allOutlets := by revert o; decide
theorem mem_allModules (m : ModuleNo) : m ∈ allModules := by revert m; decide
theorem allOutlets_pairwise_lt : allOutlets.Pairwise (· < ·) := by decide
theorem allModules_pairwise_lt : allModules.Pairwise (· < ·) := by decide
theorem allOutlets_nodup : allOutlets.Nodup := by decide
theorem allModules_nodup : allModules.Nodup := by decide

/-- A search in rising order finds the least. -/
theorem find?_eq_some_least {n : Nat} (p : Fin n → Bool) : ∀ l : List (Fin n), l.Pairwise (· < ·) → ∀ o,
    l.find? p = some o ↔ o ∈ l ∧ p o = true ∧ ∀ q ∈ l, q < o → p q = false
  | [], _, o => by simp
  | a :: rest, h, o => by
    have h' := List.pairwise_cons.1 h
    rw [List.find?_cons]
    cases ha : p a
    · simp only [find?_eq_some_least p rest h'.2 o, List.mem_cons]
      constructor
      · rintro ⟨h1, h2, h3⟩
        refine ⟨.inr h1, h2, ?_⟩
        rintro q (rfl | hq) hlt
        · exact ha
        · exact h3 q hq hlt
      · rintro ⟨rfl | h1, h2, h3⟩
        · rw [ha] at h2; cases h2
        · exact ⟨h1, h2, fun q hq => h3 q (.inr hq)⟩
    · simp only [Option.some.injEq, List.mem_cons]
      constructor
      · rintro rfl
        refine ⟨.inl rfl, ha, ?_⟩
        rintro q (rfl | hq) hlt
        · exact absurd hlt (lt_irrefl _)
        · exact absurd hlt (lt_asymm (h'.1 q hq))
      · rintro ⟨rfl | h1, h2, h3⟩
        · rfl
        · have := h3 a (.inl rfl) (h'.1 o h1)
          rw [ha] at this; cases this

/-! ### Accessors look at one field only -/

variable {s t : State}

theorem slot_congr (h : t.sessions = s.sessions) (o : Outlet) : t.slot o = s.slot o := by simp only [State.slot, h]
theorem isCharging_congr (h : t.sessions = s.sessions) (o : Outlet) : t.isCharging o = s.isCharging o := by
  simp only [State.isCharging, State.slot, h]
theorem meter_congr (h : t.meters = s.meters) (o : Outlet) : t.meter o = s.meter o := by simp only [State.meter, h]
theorem link_congr (h : t.line = s.line) (o : Outlet) : t.link o = s.link o := by simp only [State.link, h]
theorem exchange_congr (h : t.exchanges = s.exchanges) (o : Outlet) : t.exchange o = s.exchange o := by
  simp only [State.exchange, h]
theorem record_congr (h : t.dispatcher = s.dispatcher) (o : Outlet) : t.record o = s.record o := by
  simp only [State.record, h]
theorem module_congr (h : t.pool = s.pool) (m : ModuleNo) : t.module m = s.module m := by simp only [State.module, h]
theorem outletItems_congr (h : t.control = s.control) (o : Outlet) : t.outletItems o = s.outletItems o := by
  simp only [State.outletItems, h]
theorem present_congr (h : t.control = s.control) (o : Outlet) : t.present o = s.present o := by
  simp only [State.present, State.outletItems, h]
theorem rating_congr (h : t.control = s.control) : t.rating = s.rating := by simp only [State.rating, h]
theorem outletHolds_congr (h : t.pool = s.pool) (o : Outlet) : t.outletHolds o = s.outletHolds o := by
  simp only [State.outletHolds, State.module, h]
theorem holding_congr (h : t.pool = s.pool) (o : Outlet) : t.holding o = s.holding o := by
  simp only [State.holding, State.module, h]
theorem plan_congr (h : t.plans = s.plans) (n : Fin 8) : t.plan n = s.plan n := by simp only [State.plan, h]
theorem port_congr (h : t.ports = s.ports) (p : PortId) : t.port p = s.port p := by cases p <;> simp only [State.port, h]

/-! ### Operand forms -/

theorem outletOf_eq_some {b : Byte} {o : Outlet} (h : b.toNat = o.val) : outletOf b = some o := by simp [outletOf, h]
theorem outletOf_eq_none {b : Byte} (h : 16 ≤ b.toNat) : outletOf b = none := by simp [outletOf, h]
theorem planOf_eq_some {b : Byte} {n : Fin 8} (h : b.toNat = n.val) : planOf b = some n := by simp [planOf, h]
theorem planOf_eq_none {b : Byte} (h : 8 ≤ b.toNat) : planOf b = none := by simp [planOf, h]
theorem moduleOfByte_eq_some {b : Byte} {m : ModuleNo} (h : b.toNat = m.val) : moduleOfByte b = some m := by
  simp [moduleOfByte, h]
theorem moduleOfByte_eq_none {b : Byte} (h : 32 ≤ b.toNat) : moduleOfByte b = none := by simp [moduleOfByte, h]

/-! ### Requests and receivers -/

theorem portFull_of_listening {s : State} {p : PortId} (h : Listening s p) : s.portFull p = false := by
  simp [State.portFull, h.2]

/-- A request of the catalogue on a port that listens. -/
theorem exec_listening {c : Instr} {p : PortId} {code : Byte} {owner : State → Answer} {s : State}
    (h : requestParts c = some (p, code, owner)) (l : Listening s p) :
    exec c s = .next ((owner s).state.respond p code (owner s).status (owner s).payload) :=
  exec_request s h l.1 (portFull_of_listening l)

theorem feed_body (len : Byte) : ∀ (l : List Byte) (got : Nat), got + l.length < len.toNat + 2 →
    l.foldl RxState.feed (.body len got) = .body len (got + l.length) := by
  intro l
  induction l with
  | nil => simp
  | cons a r ih =>
    intro got h
    simp only [List.length_cons] at h
    have : RxState.feed (.body len got) a = .body len (got + 1) := by
      simp only [RxState.feed]; rw [if_neg (by omega)]
    rw [List.foldl_cons, this, ih _ (by omega)]
    simp; omega

/-- R165: the gap timer runs after any part of a frame but the whole. -/
theorem gapRunsAfter_partial (r : List Byte) (h : isPartialFrame r = true) : RxState.gapRunsAfter .hunting r = true := by
  cases r with
  | nil => simp [isPartialFrame] at h
  | cons a m =>
    simp only [isPartialFrame, Bool.and_eq_true, beq_iff_eq] at h
    obtain ⟨rfl, h⟩ := h
    cases m with
    | nil => rfl
    | cons len body =>
      simp only [decide_eq_true_eq] at h
      simp only [RxState.gapRunsAfter, List.foldl_cons, RxState.feed, if_true]
      rw [feed_body len body 0 (by omega)]; rfl

/-! ### Clock flags -/

theorem slot_flagLive (s : State) (f : ClockFlag) (o : Outlet) :
    (s.flagLive f).slot o = (s.slot o).map fun ses => if ses.state.live then ses.setFlag f else ses := by
  simp [State.flagLive, State.slot, flagSlot]

/-! ### Bands -/

theorem pairwise_of_startsRise : ∀ l : List Band, startsRise l = true → l.Pairwise fun a b => a.start < b.start
  | [], _ => List.Pairwise.nil
  | [_], _ => List.pairwise_singleton _ _
  | a :: b :: rest, h => by
    simp only [startsRise, Bool.and_eq_true, decide_eq_true_eq] at h
    have ih := pairwise_of_startsRise (b :: rest) h.2
    rw [List.pairwise_cons]
    refine ⟨fun c hc => ?_, ih⟩
    rcases List.mem_cons.1 hc with rfl | hc
    · exact h.1
    · exact h.1.trans ((List.pairwise_cons.1 ih).1 c hc)

/-! ### The cabinet queue, R151 -/

theorem enqueue_of_none {q : List CabinetMsg} {msg : CabinetMsg} (h : ∀ w ∈ q, w.module ≠ msg.module) :
    enqueue q msg = q ++ [msg] := by
  unfold enqueue
  rw [if_neg]
  simpa using h

theorem enqueue_of_some {before after : List CabinetMsg} {old msg : CabinetMsg} (h : old.module = msg.module)
    (others : ∀ w ∈ before ++ after, w.module ≠ msg.module) :
    enqueue (before ++ old :: after) msg = before ++ msg :: after := by
  unfold enqueue
  have keep : ∀ l : List CabinetMsg, (∀ w ∈ l, w.module ≠ msg.module) →
      (l.map fun w => if w.module = msg.module then msg else w) = l := by
    intro l hl
    conv_rhs => rw [← List.map_id l]
    exact List.map_congr_left fun w hw => by simp [hl w hw]
  rw [if_pos (by simp [h]), List.map_append, List.map_cons, if_pos h,
    keep before fun w hw => others w (by simp [hw]), keep after fun w hw => others w (by simp [hw])]

/-- A message just issued is being sent or waits. -/
theorem mem_enqueue (q : List CabinetMsg) (msg : CabinetMsg) : msg ∈ enqueue q msg := by
  unfold enqueue
  split
  · rename_i h
    obtain ⟨w, hw, e⟩ := List.any_eq_true.1 h
    have e : w.module = msg.module := by simpa using e
    exact List.mem_map.2 ⟨w, hw, by simp [e]⟩
  · simp

/-- A message of another module stays in the queue. -/
theorem mem_enqueue_other {q : List CabinetMsg} {w msg : CabinetMsg} (hw : w ∈ q) (ne : w.module ≠ msg.module) :
    w ∈ enqueue q msg := by
  unfold enqueue
  split
  · exact List.mem_map.2 ⟨w, hw, by simp [ne]⟩
  · exact List.mem_append_left _ hw

/-- Replacing keeps the modules of the queue; joining adds one. -/
theorem modules_enqueue_nodup {q : List CabinetMsg} (msg : CabinetMsg) (h : (q.map CabinetMsg.module).Nodup) :
    ((enqueue q msg).map CabinetMsg.module).Nodup := by
  unfold enqueue
  split
  · have e : (q.map fun w => if w.module = msg.module then msg else w).map CabinetMsg.module = q.map CabinetMsg.module := by
      rw [List.map_map]
      refine List.map_congr_left fun w _ => ?_
      simp only [Function.comp_apply]
      split <;> simp_all
    rwa [e]
  · rename_i hn
    rw [List.map_append, List.nodup_append]
    refine ⟨h, by simp, ?_⟩
    intro a ha b hb
    obtain ⟨w, hw, rfl⟩ := List.mem_map.1 ha
    simp only [List.map_cons, List.map_nil, List.mem_singleton] at hb
    subst hb
    intro e
    exact hn (List.any_eq_true.2 ⟨w, hw, by simpa using e⟩)

theorem sending_or_mem_pump {c : CabinetLink} {msg : CabinetMsg} (h : c.sending = some msg ∨ msg ∈ c.waiting) :
    c.pump.sending = some msg ∨ msg ∈ c.pump.waiting := by
  unfold CabinetLink.pump
  split
  · rename_i head rest hs hw
    rcases h with h | h
    · rw [h] at hs; cases hs
    · rw [hw] at h
      rcases List.mem_cons.1 h with rfl | h
      · exact .inl rfl
      · exact .inr h
  · exact h

/-- An UNROUTE just issued goes. -/
theorem unrouteGoes_issue (s : State) (m : ModuleNo) : UnrouteGoes (s.issue (.unroute m)) m := by
  unfold UnrouteGoes State.issue
  exact sending_or_mem_pump (.inr (mem_enqueue _ _))

/-- An UNROUTE that goes still goes after another module's message is issued. -/
theorem unrouteGoes_issue_other {s : State} {m : ModuleNo} {msg : CabinetMsg} (h : UnrouteGoes s m) (ne : m ≠ msg.module) :
    UnrouteGoes (s.issue msg) m := by
  unfold UnrouteGoes State.issue
  exact sending_or_mem_pump (h.imp id fun h => mem_enqueue_other h ne)

theorem pump_fields (c : CabinetLink) : c.pump.rx = c.rx ∧ c.pump.frameErrors = c.frameErrors ∧
    c.pump.unusable = c.unusable ∧ c.pump.unexpectedConfirms = c.unexpectedConfirms := by
  unfold CabinetLink.pump; split <;> simp

/-! ### Releases, R142 -/

theorem cabinet_releaseModule_of_not_warming {s : State} {m : ModuleNo} (h : ∀ o d, (s.module m).state ≠ .warming o d) :
    (s.releaseModule m).pool.cabinet = s.pool.cabinet := by
  unfold State.releaseModule
  split <;> simp_all [State.drainModule]

theorem module_releaseModule (s : State) (m k : ModuleNo) :
    (s.releaseModule m).module k =
      if k = m then { s.module m with state := afterRelease s (s.module m).state } else s.module k := by
  by_cases hk : k = m
  · subst hk
    rw [if_pos rfl]
    unfold State.releaseModule
    cases h : (s.module k).state <;> simp [afterRelease, State.openModule, State.drainModule] <;>
      (rw [← h])
  · rw [if_neg hk]
    have hk' : m ≠ k := fun e => hk e.symm
    unfold State.releaseModule
    split <;> simp [State.openModule, State.drainModule, hk']

@[simp] theorem afterRelease_assigned (s : State) (st : ModuleState) : (afterRelease s st).assigned = st.assigned := by
  cases st <;> rfl

/-- The pool fields that a release leaves. -/
theorem pool_releaseModule (s : State) (m : ModuleNo) : (s.releaseModule m).pool.shortfalls = s.pool.shortfalls ∧
    (s.releaseModule m).pool.cabinet.rx = s.pool.cabinet.rx ∧
    (s.releaseModule m).pool.cabinet.frameErrors = s.pool.cabinet.frameErrors ∧
    (s.releaseModule m).pool.cabinet.unusable = s.pool.cabinet.unusable ∧
    (s.releaseModule m).pool.cabinet.unexpectedConfirms = s.pool.cabinet.unexpectedConfirms := by
  unfold State.releaseModule
  split <;> simp [State.openModule, State.drainModule, State.issue, pump_fields]

theorem unrouteGoes_releaseModule {s : State} {m k : ModuleNo} (h : UnrouteGoes s k) (ne : k ≠ m) :
    UnrouteGoes (s.releaseModule m) k := by
  by_cases hw : ∃ o d, (s.module m).state = .warming o d
  · obtain ⟨o, d, hw⟩ := hw
    unfold State.releaseModule
    rw [hw]
    exact unrouteGoes_issue_other h (by simpa [CabinetMsg.module] using ne)
  · have := cabinet_releaseModule_of_not_warming (s := s) (m := m) (fun o d e => hw ⟨o, d, e⟩)
    unfold UnrouteGoes at h ⊢
    rwa [this]

theorem unrouteGoes_releaseModule_self {s : State} {m : ModuleNo} {o : Outlet} {d : Nat}
    (h : (s.module m).state = .warming o d) : UnrouteGoes (s.releaseModule m) m := by
  unfold State.releaseModule
  rw [h]
  exact unrouteGoes_issue s m

/-- A release of some modules of an outlet, one after another. -/
theorem release_fold (o : Outlet) : ∀ (l : List ModuleNo), l.Nodup → ∀ s : State,
    (∀ k, (l.foldl (State.releaseIfAssigned o) s).module k =
      if k ∈ l ∧ (s.module k).state.assigned = some o then
        { s.module k with state := afterRelease s (s.module k).state } else s.module k) ∧
    (∀ k d, k ∈ l → (s.module k).state = .warming o d → UnrouteGoes (l.foldl (State.releaseIfAssigned o) s) k) ∧
    (∀ k, UnrouteGoes s k → k ∉ l → UnrouteGoes (l.foldl (State.releaseIfAssigned o) s) k) ∧
    ((∀ k d, (s.module k).state ≠ .warming o d) →
      (l.foldl (State.releaseIfAssigned o) s).pool.cabinet = s.pool.cabinet) ∧
    (l.foldl (State.releaseIfAssigned o) s).pool.cabinet.rx = s.pool.cabinet.rx ∧
    (l.foldl (State.releaseIfAssigned o) s).pool.cabinet.frameErrors = s.pool.cabinet.frameErrors ∧
    (l.foldl (State.releaseIfAssigned o) s).pool.cabinet.unusable = s.pool.cabinet.unusable ∧
    (l.foldl (State.releaseIfAssigned o) s).pool.cabinet.unexpectedConfirms = s.pool.cabinet.unexpectedConfirms ∧
    (l.foldl (State.releaseIfAssigned o) s).pool.shortfalls = s.pool.shortfalls := by
  intro l
  induction l with
  | nil => intro _ s; simp
  | cons a rest ih =>
    intro hn s
    have hn' := List.nodup_cons.1 hn
    have I := ih hn'.2 (State.releaseIfAssigned o s a)
    rw [List.foldl_cons]
    by_cases ha : (s.module a).state.assigned = some o
    · have e : State.releaseIfAssigned o s a = s.releaseModule a := by simp [State.releaseIfAssigned, ha]
      rw [e] at I ⊢
      obtain ⟨I1, I2, I3, I4, I5, I6, I7, I8, I9⟩ := I
      obtain ⟨P1, P2, P3, P4, P5⟩ := pool_releaseModule s a
      refine ⟨fun k => ?_, fun k d hk hw => ?_, fun k hk hl => ?_, fun h => ?_, by rw [I5, P2], by rw [I6, P3], by rw [I7, P4],
        by rw [I8, P5], by rw [I9, P1]⟩
      · rw [I1 k]
        by_cases hk : k = a
        · subst hk
          simp [hn'.1, module_releaseModule, ha]
        · have ar : ∀ st, afterRelease (s.releaseModule a) st = afterRelease s st := by
            intro st; cases st <;> simp [afterRelease]
          simp [module_releaseModule, hk, ar]
      · by_cases hk' : k = a
        · subst hk'
          exact I3 k (unrouteGoes_releaseModule_self hw) hn'.1
        · refine I2 k d ((List.mem_cons.1 hk).resolve_left hk') ?_
          simpa [module_releaseModule, hk'] using hw
      · rw [List.mem_cons, not_or] at hl
        exact I3 k (unrouteGoes_releaseModule hk hl.1) hl.2
      · have hw : ∀ o' d, (s.module a).state ≠ .warming o' d := by
          intro o' d e'
          rw [e'] at ha
          simp only [ModuleState.assigned, Option.some.injEq] at ha
          subst ha
          exact h a d e'
        have c := cabinet_releaseModule_of_not_warming hw
        rw [I4 ?_, c]
        intro k d
        rw [module_releaseModule]
        split
        · subst k
          cases hs : (s.module a).state <;> simp only [afterRelease, ne_eq, reduceCtorEq, not_false_eq_true]
        · exact h k d
    · have e : State.releaseIfAssigned o s a = s := by simp [State.releaseIfAssigned, ha]
      rw [e] at I ⊢
      obtain ⟨I1, I2, I3, I4, I5, I6, I7, I8, I9⟩ := I
      refine ⟨fun k => ?_, fun k d hk hw => ?_, fun k hk hl => I3 k hk fun h => hl (List.mem_cons_of_mem _ h), I4, I5, I6, I7, I8, I9⟩
      · rw [I1 k]
        by_cases hk : k = a
        · subst hk; simp [ha]
        · simp [hk]
      · refine I2 k d ((List.mem_cons.1 hk).resolve_left ?_) hw
        rintro rfl
        rw [hw] at ha
        exact ha rfl

/-- R142: an outlet release. -/
theorem released_outletRelease (s : State) (o : Outlet) : Released s (s.outletRelease o) o := by
  have H := release_fold o allModules allModules_nodup s
  unfold State.outletRelease
  generalize allModules.foldl (State.releaseIfAssigned o) s = t at H ⊢
  obtain ⟨h1, h2, _, h4, h5, h6, h7, h8, h9⟩ := H
  refine ⟨fun m => ?_, fun m d h => h2 m d (mem_allModules m) h, fun h => h4 fun k d => h k d, h5, h6, h7, h8, h9⟩
  have := h1 m
  simp only [mem_allModules m, true_and] at this
  exact this

/-- A release leaves every assignment. -/
theorem assigned_of_released {s t : State} {o : Outlet} (h : Released s t o) (m : ModuleNo) :
    (t.module m).state.assigned = (s.module m).state.assigned := by
  rw [h.1 m]; split <;> simp

theorem outletHolds_of_released {s t : State} {o : Outlet} (h : Released s t o) (p : Outlet) :
    t.outletHolds p = s.outletHolds p := by
  unfold State.outletHolds
  simp only [assigned_of_released h]

/-- Looking only at the pool and the times a release uses. -/
theorem released_congr {s s' t : State} {o : Outlet} (h : Released s' t o) (pool : s'.pool = s.pool)
    (clock : s'.clock = s.clock) (control : s'.control = s.control) : Released s t o := by
  have e : ∀ m, s'.module m = s.module m := fun m => by simp only [State.module, pool]
  have a : ∀ st, afterRelease s' st = afterRelease s st := by
    intro st; cases st <;> simp [afterRelease, clock, control]
  unfold Released at h ⊢
  simp only [e, a, pool] at h
  exact h

/-! ### The entry into STOPPING, R57, and the settle deadline, R59 -/

theorem slot_reportIfEmpty_other (s : State) {o p : Outlet} (h : p ≠ o) : (s.reportIfEmpty o).slot p = s.slot p := by
  unfold State.reportIfEmpty State.setSettleDeadline
  repeat' split
  all_goals simp [h.symm]

/-- R59: what the report of an empty outlet does to its slot. -/
theorem slot_reportIfEmpty (s : State) (o : Outlet) : (s.reportIfEmpty o).slot o = (s.slot o).map fun ses =>
    match ses.state with
    | .stopping reason time none =>
      if s.outletHolds o then ses
      else { ses with state := .stopping reason time (some (s.clock.elapsed + s.control.park.settleWindow)) }
    | _ => ses := by
  unfold State.reportIfEmpty State.setSettleDeadline
  cases h : s.slot o with
  | none => by_cases hh : s.outletHolds o <;> simp [hh, h]
  | some ses =>
    cases hs : ses.state with
    | stopping r t d => cases d <;> by_cases hh : s.outletHolds o <;> simp [hh, h, hs]
    | _ => by_cases hh : s.outletHolds o <;> simp [hh, h, hs]

/-- R59: a report of an empty outlet touches the slots only. -/
theorem counters_reportIfEmpty (s : State) (o : Outlet) :
    { (s.reportIfEmpty o).sessions with slots := s.sessions.slots } = s.sessions := by
  unfold State.reportIfEmpty State.setSettleDeadline
  repeat' split
  all_goals simp [State.setSlot]

theorem frame_reportIfEmpty (s : State) (o : Outlet) : { s.reportIfEmpty o with sessions := s.sessions } = s := by
  unfold State.reportIfEmpty State.setSettleDeadline
  repeat' split
  all_goals simp [State.setSlot]

/-- R145: a module that had an outlet takes a state without one. -/
theorem unassign_some {s : State} {m : ModuleNo} {o : Outlet} (st : ModuleState)
    (h : (s.module m).state.assigned = some o) :
    (∀ k, (s.unassign m st).module k = if k = m then { s.module m with state := st } else s.module k) ∧
      SettleReported s (s.unassign m st) o ∧ (∀ p, p ≠ o → (s.unassign m st).slot p = s.slot p) ∧
      { (s.unassign m st).sessions with slots := s.sessions.slots } = s.sessions ∧
      (s.unassign m st).pool.cabinet = s.pool.cabinet ∧ (s.unassign m st).pool.shortfalls = s.pool.shortfalls ∧
      { s.unassign m st with sessions := s.sessions, pool := s.pool } = s := by
  have e : s.unassign m st = (s.setModuleState m st).reportIfEmpty o := by unfold State.unassign; rw [h]
  refine ⟨fun k => ?_, ?_, fun p hp => ?_, ?_, ?_, ?_, ?_⟩
  · rw [e, module_congr (pool_reportIfEmpty _ o)]
    by_cases hk : k = m
    · subst hk; simp
    · simp [hk, Ne.symm hk]
  · unfold SettleReported
    rw [e, outletHolds_congr (pool_reportIfEmpty _ o), slot_reportIfEmpty]
    rfl
  · rw [e, slot_reportIfEmpty_other _ hp]; simp
  · rw [e]; exact counters_reportIfEmpty (s.setModuleState m st) o
  · rw [e]; simp
  · rw [e]; simp
  · have := frame_reportIfEmpty (s.setModuleState m st) o
    rw [e]
    generalize (s.setModuleState m st).reportIfEmpty o = t at *
    rw [State.mk.injEq] at this ⊢
    simp at this ⊢
    simp [this]

theorem unassign_none {s : State} {m : ModuleNo} (st : ModuleState) (h : (s.module m).state.assigned = none) :
    s.unassign m st = s.setModuleState m st := by unfold State.unassign; rw [h]
/-- R57: the entry into STOPPING. -/
theorem enterStopping_some {s : State} {o : Outlet} {ses : Session} (reason : EndReason) (h : s.slot o = some ses) :
    Released s (s.enterStopping o reason) o ∧
      (s.enterStopping o reason).slot o = some { ses.leaveParked with
        state := .stopping reason s.clock.parkTime
          (if s.outletHolds o then none else some (s.clock.elapsed + s.control.park.settleWindow)) } ∧
      (∀ p, p ≠ o → (s.enterStopping o reason).slot p = s.slot p) ∧
      (s.enterStopping o reason).notices = s.notices.raiseOutlet .sessionStopping o := by
  let u := s.setSlot o (some { ses.leaveParked with state := .stopping reason s.clock.parkTime none })
  let t := u.outletRelease o
  have hR : Released s t o := released_congr (released_outletRelease u o) rfl rfl rfl
  have e : s.enterStopping o reason = (t.raiseOutlet .sessionStopping o).reportIfEmpty o := by
    unfold State.enterStopping; rw [h]; rfl
  have hslot : (t.raiseOutlet .sessionStopping o).slot o =
      some { ses.leaveParked with state := .stopping reason s.clock.parkTime none } := by
    simp [t, u, State.slot]
    simpa [State.slot] using slot_setSlot s o o (some _)
  have hh : (t.raiseOutlet .sessionStopping o).outletHolds o = s.outletHolds o := by
    rw [← outletHolds_of_released hR o]; simp only [State.outletHolds, module_raiseOutlet]
  refine ⟨?_, ?_, fun p hp => ?_, ?_⟩
  · rw [e]
    unfold Released at hR ⊢
    unfold UnrouteGoes at hR ⊢
    simpa [State.module] using hR
  · rw [e, slot_reportIfEmpty, hslot, hh]
    by_cases hb : s.outletHolds o <;> simp [hb, t, u]
  · rw [e, slot_reportIfEmpty_other _ hp]
    simp only [slot_raiseOutlet, t, u, State.slot, sessions_outletRelease]
    simpa [State.slot, hp.symm] using slot_setSlot s o p (some _)
  · rw [e]
    simp [t, u, State.raiseOutlet]

/-- The session lookup by number. -/
theorem findSession_of_none {s : State} {number : Nat} (h : NoSlotHolds s number) : s.findSession number = none := by
  unfold State.findSession
  rw [List.find?_eq_none]
  intro o _
  cases hs : s.slot o with
  | none => simp
  | some ses => simpa using h o ses hs

theorem findSession_of_holds {s : State} {o : Outlet} {ses : Session} {number : Nat} (h : HoldsNumber s o ses number) :
    s.findSession number = some o := by
  unfold State.findSession
  cases hf : allOutlets.find? _ with
  | none =>
    have := List.find?_eq_none.1 hf o (mem_allOutlets o)
    simp [h.1, h.2.1] at this
  | some p =>
    have hp := List.find?_some hf
    cases hs : s.slot p with
    | none => simp [hs] at hp
    | some v =>
      simp only [hs, beq_iff_eq] at hp
      rw [h.2.2 p v hs hp]

/-! ### The waiting set, R157 -/

theorem mem_of_firstWaiter {v : Waiter} : ∀ {l : List Waiter}, firstWaiter l = some v → v ∈ l
  | [], h => by cases h
  | w :: rest, h => by
    simp only [firstWaiter] at h
    cases hr : firstWaiter rest with
    | none => rw [hr] at h; cases h; simp
    | some u =>
      rw [hr] at h
      simp only at h
      split at h
      · cases h; simp
      · cases h; exact List.mem_cons_of_mem _ (mem_of_firstWaiter hr)

/-- R157: the waiter with the least stamp, of equal stamps the one with the lower outlet, is the first. -/
theorem firstWaiter_eq {w : Waiter} : ∀ {l : List Waiter}, w ∈ l → l.Pairwise (fun a b => a.outlet < b.outlet) →
    (∀ v ∈ l, w.stamp < v.stamp ∨ (w.stamp = v.stamp ∧ w.outlet ≤ v.outlet)) → firstWaiter l = some w
  | [], h, _, _ => by cases h
  | a :: rest, hm, hp, hv => by
    rw [List.pairwise_cons] at hp
    rcases List.mem_cons.1 hm with rfl | hm
    · simp only [firstWaiter]
      cases hf : firstWaiter rest with
      | none => rfl
      | some v =>
        have := hv v (List.mem_cons_of_mem _ (mem_of_firstWaiter hf))
        simp only
        rw [if_pos (by omega)]
    · have := firstWaiter_eq hm hp.2 fun v hv' => hv v (List.mem_cons_of_mem _ hv')
      simp only [firstWaiter, this]
      have h1 := hv a (by simp)
      have h2 : a.outlet.val < w.outlet.val := hp.1 w hm
      rw [if_neg]
      rcases h1 with h1 | ⟨h1, h3⟩
      · omega
      · have h3 : w.outlet.val ≤ a.outlet.val := h3
        omega

theorem waiters_pairwise (s : State) : s.waiters.Pairwise fun a b => a.outlet < b.outlet := by
  unfold State.waiters
  rw [List.pairwise_filterMap]
  refine allOutlets_pairwise_lt.imp fun {a b} hab x hx y hy => ?_
  have key : ∀ {o : Outlet} {w : Waiter}, (match s.slot o with
      | none => none
      | some ses =>
        match ses.state with
        | .closedWait r stamp => some ({ outlet := o, stamp := stamp, closure := r } : Waiter)
        | _ => none) = some w → w.outlet = o := by
    intro o w h
    split at h
    · cases h
    · split at h
      · cases h; rfl
      · cases h
  rw [key hx, key hy]
  exact hab

/-! ### The funds guard, R88 to R91 -/

theorem slot_enterStopping_other {s : State} {o p : Outlet} (reason : EndReason) (h : p ≠ o) :
    (s.enterStopping o reason).slot p = s.slot p := by
  cases hs : s.slot o with
  | none => unfold State.enterStopping; rw [hs]
  | some ses => exact (enterStopping_some reason hs).2.2.1 p h

theorem slot_sendFundsLow (s : State) (o p : Outlet) : (s.sendFundsLow o).slot p =
    if o = p then (s.slot o).map fun v => { v with fundsLowSent := true } else s.slot p := by
  unfold State.sendFundsLow
  cases h : s.slot o with
  | none => by_cases e : o = p <;> simp [e]; rw [← e, h]
  | some ses => simp

theorem slot_evaluateFunds_other {s : State} {o p : Outlet} (h : p ≠ o) : (s.evaluateFunds o).slot p = s.slot p := by
  unfold State.evaluateFunds
  repeat' split
  all_goals simp [slot_sendFundsLow, slot_enterStopping_other _ h, h.symm]

/-- What one evaluation leaves in the slot: all but the state, the parked elapsed time and FUNDS_LOW_SENT; the state too where the
guard does not stop the session. -/
theorem slot_evaluateFunds {s : State} {o : Outlet} {ses : Session} (h : s.slot o = some ses) :
    ∃ after : Session, (s.evaluateFunds o).slot o = some after ∧
      { after with state := ses.state, parkedElapsed := ses.parkedElapsed, fundsLowSent := ses.fundsLowSent } = ses ∧
      (ses.fundsStop s.clock.parkTime s.control.park.guardEnergy = false →
        after.state = ses.state ∧ after.parkedElapsed = ses.parkedElapsed) ∧
      ((after.state = ses.state ∧ after.parkedElapsed = ses.parkedElapsed) ∨
        ∃ d, after.state = .stopping .funds s.clock.parkTime d) := by
  unfold State.evaluateFunds
  rw [h]
  by_cases he : ses.state.evaluated <;> simp only [he, if_true, if_false, Bool.false_eq_true]
  swap
  · exact ⟨ses, h, rfl, fun _ => ⟨rfl, rfl⟩, .inl ⟨rfl, rfl⟩⟩
  cases hf : ses.fundsStop s.clock.parkTime s.control.park.guardEnergy
  · simp only [Bool.false_eq_true, if_false]
    split
    · exact ⟨{ ses with fundsLowSent := true }, by simp [slot_sendFundsLow, h], rfl, fun _ => ⟨rfl, rfl⟩, .inl ⟨rfl, rfl⟩⟩
    · exact ⟨ses, h, rfl, fun _ => ⟨rfl, rfl⟩, .inl ⟨rfl, rfl⟩⟩
  · simp only [if_true]
    have hs := (enterStopping_some (s := s) .funds h).2.1
    split
    · refine ⟨_, by rw [slot_sendFundsLow, if_pos rfl, hs]; rfl, ?_, fun h => by simp at h, .inr ⟨_, rfl⟩⟩
      unfold Session.leaveParked; split <;> rfl
    · refine ⟨_, hs, ?_, fun h => by simp at h, .inr ⟨_, rfl⟩⟩
      unfold Session.leaveParked; split <;> rfl

/-- An evaluation that does not stop the session leaves the modules. -/
theorem pool_evaluateFunds {s : State} {o : Outlet} {ses : Session} (h : s.slot o = some ses)
    (hf : ses.fundsStop s.clock.parkTime s.control.park.guardEnergy = false) : (s.evaluateFunds o).pool = s.pool := by
  unfold State.evaluateFunds
  rw [h]
  simp only [hf, Bool.false_eq_true, if_false]
  repeat' split
  all_goals first | rfl | simp

/-- R91: the evaluation that follows a TOPUP is one of the guard, with FUNDS_LOW_SENT cleared after it above the warning. -/
theorem evaluateTopup_some {s : State} {o : Outlet} {ses : Session} (h : s.slot o = some ses) :
    s.evaluateTopup o =
      if s.control.park.fundsWarning < ses.energyHeadroom s.clock.parkTime then
        (s.evaluateFunds o).setSlot o (((s.evaluateFunds o).slot o).map fun v => { v with fundsLowSent := false })
      else s.evaluateFunds o := by
  obtain ⟨after, h1, _⟩ := slot_evaluateFunds h
  unfold State.evaluateTopup
  rw [h]
  simp only [h1, Option.map_some]

end Sys2Proof.Laws
end

