-- ==== Sys2Proof/Laws/Values.lean ====
section
/-! SUPPORT. What the pure functions of the model compute: sorting and admission, the band in force, billing lists, closure bands,
the exchange's free buffer, byte fields. -/

namespace Sys2Proof.Laws

open Sys2Proof.Machine Sys2Proof.Safety

/-! ### Sorting and admission, R124 to R126 -/

theorem insertBy_perm {α : Type} (before : α → α → Bool) (x : α) : ∀ l : List α, (insertBy before x l).Perm (x :: l)
  | [] => List.Perm.refl _
  | y :: rest => by
    unfold insertBy
    split
    · exact List.Perm.refl _
    · exact (List.Perm.cons y (insertBy_perm before x rest)).trans (List.Perm.swap x y rest)

/-- A sorted list has the same entries. -/
theorem sortBy_perm {α : Type} (before : α → α → Bool) : ∀ l : List α, (sortBy before l).Perm l
  | [] => List.Perm.refl _
  | x :: rest => (insertBy_perm before x _).trans (List.Perm.cons x (sortBy_perm before rest))

theorem pairwise_insertBy {α : Type} {before : α → α → Bool} (total : ∀ a b, before a b = false → before b a = true)
    (trans : ∀ a b c, before a b = true → before b c = true → before a c = true) (x : α) :
    ∀ l : List α, l.Pairwise (fun a b => before a b = true) → (insertBy before x l).Pairwise fun a b => before a b = true
  | [], _ => List.pairwise_singleton _ _
  | y :: rest, h => by
    have h' := List.pairwise_cons.1 h
    unfold insertBy
    split
    · rename_i hxy
      refine List.pairwise_cons.2 ⟨fun z hz => ?_, h⟩
      rcases List.mem_cons.1 hz with rfl | hz
      · exact hxy
      · exact trans _ _ _ hxy (h'.1 z hz)
    · rename_i hxy
      refine List.pairwise_cons.2 ⟨fun z hz => ?_, pairwise_insertBy total trans x rest h'.2⟩
      rcases List.mem_cons.1 ((insertBy_perm before x rest).mem_iff.1 hz) with rfl | hz
      · exact total _ _ (by simpa using hxy)
      · exact h'.1 z hz

/-- A sorted list stands in order. -/
theorem pairwise_sortBy {α : Type} {before : α → α → Bool} (total : ∀ a b, before a b = false → before b a = true)
    (trans : ∀ a b c, before a b = true → before b c = true → before a c = true) :
    ∀ l : List α, (sortBy before l).Pairwise fun a b => before a b = true
  | [] => List.Pairwise.nil
  | x :: rest => pairwise_insertBy total trans x _ (pairwise_sortBy total trans rest)

/-- R125: the walk stops at the first claim that does not fit. -/
theorem admitClaims_append (available : Nat) : ∀ (l : List Claim) (sum : Nat), ∃ queued, l = admitClaims available sum l ++ queued ∧
    (sum ≤ available → sum + ((admitClaims available sum l).map (·.minimum)).sum ≤ available) ∧
    ∀ c rest, queued = c :: rest → available < sum + ((admitClaims available sum l).map (·.minimum)).sum + c.minimum
  | [], sum => ⟨[], rfl, fun h => by simpa [admitClaims] using h, fun c rest h => by cases h⟩
  | c :: rest, sum => by
    by_cases h : sum + c.minimum ≤ available
    · obtain ⟨queued, h1, h2, h3⟩ := admitClaims_append available rest (sum + c.minimum)
      refine ⟨queued, by simp only [admitClaims, h, if_true, List.cons_append]; rw [← h1], fun _ => ?_, fun d r e => ?_⟩
      · have := h2 h
        simp only [admitClaims, h, if_true, List.map_cons, List.sum_cons]; omega
      · have := h3 d r e
        simp only [admitClaims, h, if_true, List.map_cons, List.sum_cons]; omega
    · refine ⟨c :: rest, by simp [admitClaims, h], fun h' => by simpa [admitClaims, h] using h', fun d r e => ?_⟩
      cases e
      simp [admitClaims, h]; omega

/-! ### The band in force, R37 -/

/-- The band found is the last of the list whose start is not greater than the minute, or the best so far where there is none. -/
theorem lastBandFrom_spec (minute : Nat) : ∀ (l : List Band) (i : Nat) (best : Nat × Nat),
    (lastBandFrom minute l i best = best ∧ ∀ (k : Nat) (b : Band), l[k]? = some b → minute < b.start) ∨
      ∃ (k : Nat) (b : Band), l[k]? = some b ∧ b.start ≤ minute ∧ lastBandFrom minute l i best = (i + k, b.price) ∧
        ∀ (j : Nat) (c : Band), k < j → l[j]? = some c → minute < c.start
  | [], _, _ => .inl ⟨rfl, by simp⟩
  | b :: rest, i, best => by
    unfold lastBandFrom
    rcases lastBandFrom_spec minute rest (i + 1) (if b.start ≤ minute then (i, b.price) else best) with
      ⟨h, later⟩ | ⟨k, c, h1, h2, h3, later⟩
    · rw [h]
      split
      · rename_i hb
        refine .inr ⟨0, b, by simp, hb, by simp, fun j c hj hc => ?_⟩
        obtain ⟨j, rfl⟩ := Nat.exists_eq_succ_of_ne_zero (Nat.ne_of_gt hj)
        exact later j c (by simpa using hc)
      · rename_i hb
        refine .inl ⟨rfl, fun j c hc => ?_⟩
        cases j with
        | zero => simp at hc; subst hc; omega
        | succ j => exact later j c (by simpa using hc)
    · refine .inr ⟨k + 1, c, by simpa using h1, h2, by rw [h3]; congr 1; omega, fun j d hj hd => ?_⟩
      cases j with
      | zero => omega
      | succ j => exact later j d (by omega) (by simpa using hd)

/-- R33, R37: the band in force of a well-formed list is its last band that has started by the minute of day. -/
theorem bandInForce_spec {bands : List Band} (h : bandsWellFormed bands = true) (parkTime : Nat) :
    ∃ (i : Nat) (b : Band), bands[i]? = some b ∧ bandInForce bands parkTime = (i, b.price) ∧
      b.start ≤ minuteOfDay parkTime ∧
      ∀ (j : Nat) (later : Band), i < j → bands[j]? = some later → minuteOfDay parkTime < later.start := by
  simp only [bandsWellFormed, Bool.and_eq_true, beq_iff_eq] at h
  cases bands with
  | nil => simp at h
  | cons a rest =>
    have ha : a.start = 0 := by simpa using h.1.1.2
    rcases lastBandFrom_spec (minuteOfDay parkTime) (a :: rest) 0 (0, 0) with ⟨_, none⟩ | ⟨k, b, h1, h2, h3, later⟩
    · have := none 0 a (by simp)
      omega
    · exact ⟨k, b, h1, by unfold bandInForce; rw [h3]; simp, h2, later⟩

/-- R33, R37: the band in force of a well-formed list is one of its bands, with its price. -/
theorem bandInForce_mem {bands : List Band} (h : bandsWellFormed bands = true) (parkTime : Nat) :
    ∃ b, bands[(bandInForce bands parkTime).1]? = some b ∧ b.price = (bandInForce bands parkTime).2 := by
  obtain ⟨i, b, h1, h2, _⟩ := bandInForce_spec h parkTime
  rw [h2]
  exact ⟨b, h1, rfl⟩

/-! ### The session counter, R39 -/

/-- The counter stops at the first number that is not held, or has used its steps up on held ones. -/
theorem advanceNumber_spec (taken : List Nat) : ∀ fuel n : Nat,
    (∃ k, k < fuel ∧ advanceNumber taken fuel n = nextNumber^[k + 1] n ∧ nextNumber^[k + 1] n ∉ taken ∧
      ∀ j, j < k → nextNumber^[j + 1] n ∈ taken) ∨
    ∀ j, j < fuel → nextNumber^[j + 1] n ∈ taken
  | 0, _ => .inr fun j hj => absurd hj (Nat.not_lt_zero j)
  | fuel + 1, n => by
    have shift : ∀ j, nextNumber^[j + 2] n = nextNumber^[j + 1] (nextNumber n) := fun j => rfl
    by_cases h : nextNumber n ∈ taken
    · have e : advanceNumber taken (fuel + 1) n = advanceNumber taken fuel (nextNumber n) := by
        rw [advanceNumber, if_pos (by simpa using h)]
      rcases advanceNumber_spec taken fuel (nextNumber n) with ⟨k, h1, h2, h3, h4⟩ | all
      · refine .inl ⟨k + 1, by omega, by rw [e, h2, shift], by rwa [shift], fun j hj => ?_⟩
        cases j with
        | zero => exact h
        | succ j => rw [shift]; exact h4 j (by omega)
      · refine .inr fun j hj => ?_
        cases j with
        | zero => exact h
        | succ j => rw [shift]; exact all j (by omega)
    · exact .inl ⟨0, by omega, by rw [advanceNumber, if_neg (by simpa using h)]; rfl, h, fun j hj => absurd hj (Nat.not_lt_zero j)⟩

/-! ### Lists of subtotals, R70 and R154 -/

theorem addAt_eq_modify (n : Nat) : ∀ (l : List Nat) (i : Nat), addAt l i n = l.modify i (· + n)
  | [], i => by simp [addAt]
  | a :: rest, 0 => by simp [addAt]
  | a :: rest, i + 1 => by simp [addAt, addAt_eq_modify n rest i]

theorem length_addAt (n : Nat) (l : List Nat) (i : Nat) : (addAt l i n).length = l.length := by
  rw [addAt_eq_modify]; simp

theorem sum_addAt (n : Nat) : ∀ (l : List Nat) (i : Nat), i < l.length → (addAt l i n).sum = l.sum + n
  | [], i, h => by simp at h
  | a :: rest, 0, _ => by simp [addAt]; omega
  | a :: rest, i + 1, h => by
    have := sum_addAt n rest i (by simpa using h)
    simp only [addAt, List.sum_cons, this]; omega

/-- R81: raising one band's subtotal raises the priced energy by that much at that band's price. -/
theorem pricedEnergy_addAt (n : Nat) : ∀ (bands : List Band) (l : List Nat) (i : Nat) (b : Band), bands[i]? = some b →
    l.length = bands.length → pricedEnergy bands (addAt l i n) = pricedEnergy bands l + b.price * n
  | [], _, _, _, h, _ => by simp at h
  | a :: bs, [], i, b, _, hl => by simp at hl
  | a :: bs, x :: xs, 0, b, h, _ => by
    simp at h; subst h
    simp only [addAt, pricedEnergy, Nat.mul_add]; omega
  | a :: bs, x :: xs, i + 1, b, h, hl => by
    have := pricedEnergy_addAt n bs xs i b (by simpa using h) (by simpa using hl)
    simp only [addAt, pricedEnergy, this]; omega

theorem closedBands_prices : ∀ (bs : List Band) (ns : List Nat),
    (closedBands bs ns).map (fun b => (⟨b.start, b.price⟩ : Band)) = bs
  | [], _ => by simp [closedBands]
  | b :: bs, [] => by simp [closedBands, closedBands_prices bs]
  | b :: bs, n :: ns => by simp [closedBands, closedBands_prices bs]

theorem closedBands_subtotals : ∀ (bs : List Band) (ns : List Nat), ns.length = bs.length →
    (closedBands bs ns).map (·.subtotal) = ns
  | [], ns, h => by simp at h; simp [closedBands, h]
  | b :: bs, [], h => by simp at h
  | b :: bs, n :: ns, h => by simp [closedBands, closedBands_subtotals bs ns (by simpa using h)]

theorem closedBands_priced : ∀ (bs : List Band) (ns : List Nat), ns.length = bs.length →
    ((closedBands bs ns).map fun b => b.price * b.subtotal).sum = pricedEnergy bs ns
  | [], ns, h => by simp [closedBands, pricedEnergy]
  | b :: bs, [], h => by simp at h
  | b :: bs, n :: ns, h => by simp [closedBands, pricedEnergy, closedBands_priced bs ns (by simpa using h)]

/-! ### The exchange, R102 and R103 -/

/-- R103, step 3: a buffer that is LATEST's and WRITING's at once leaves one that has no role, the lowest-numbered of them. -/
theorem lowestFree_spec (x : Exchange) (h : x.latest = some x.writing) :
    x.used x.lowestFree = false ∧ ∀ b, b < x.lowestFree → x.used b = true := by
  obtain ⟨bufs, w, l, hd⟩ := x
  simp only at h
  subst h
  revert w hd
  have : ∀ (w : Fin 3) (hd : Option (Fin 3)),
      (let x : Exchange := { buffers := Vector.replicate 3 none, writing := w, latest := some w, held := hd }
       x.used x.lowestFree = false ∧ ∀ b, b < x.lowestFree → x.used b = true) := by
    intro w hd
    cases hd with
    | none => revert w; decide
    | some d => revert w d; decide
  exact fun w hd => this w hd

/-! ### Bytes -/

theorem length_toBytes (n v : Nat) : (toBytes n v).length = n := by
  induction n with
  | zero => rfl
  | succ n ih => simp [toBytes, ih]

theorem ofBytes_append (a b : List Byte) : ofBytes (a ++ b) = ofBytes a * 256 ^ b.length + ofBytes b := by
  induction b using List.reverseRecOn with
  | nil => simp [ofBytes]
  | append_singleton l x ih =>
    rw [← List.append_assoc]
    unfold ofBytes at ih ⊢
    rw [List.foldl_append, List.foldl_append (l := l)]
    simp only [List.foldl_cons, List.foldl_nil, List.length_append, List.length_singleton]
    rw [ih, Nat.pow_succ]; ring

/-- A field of `n` bytes reads back modulo 2^(8n). -/
theorem ofBytes_toBytes (n v : Nat) : ofBytes (toBytes n v) = v % 256 ^ n := by
  induction n with
  | zero => simp [toBytes, ofBytes, Nat.mod_one]
  | succ n ih =>
    have : toBytes (n + 1) v = [BitVec.ofNat 8 (v / 256 ^ n)] ++ toBytes n v := rfl
    rw [this, ofBytes_append, length_toBytes, ih]
    simp only [ofBytes, List.foldl_cons, List.foldl_nil, BitVec.toNat_ofNat]
    rw [show (256 : Nat) ^ (n + 1) = 256 ^ n * 256 from Nat.pow_succ _ _, Nat.mod_mul, show (2 : Nat) ^ 8 = 256 from rfl]
    rw [Nat.mul_comm (256 ^ n), Nat.zero_mul, Nat.zero_add, Nat.add_comm]

end Sys2Proof.Laws
end

