-- ==== Sys2Proof/Laws/Dispatch.lean ====
section
/-! SUPPORT. What a dispatch (R119, stages 2 to 8) writes: the service order, the records that the stages leave, requests and
excess. -/

namespace Sys2Proof.Laws

open Sys2Proof.Machine Sys2Proof.Safety

/-! ### The service order, R124 -/

theorem mem_sortBy {α : Type} {before : α → α → Bool} {l : List α} {a : α} : a ∈ sortBy before l ↔ a ∈ l :=
  (sortBy_perm before l).mem_iff

/-- A sort by `before` keeps the order of what `before` does not tell apart. -/
theorem pairwise_insertBy_stable {α : Type} {before : α → α → Bool} {R : α → α → Prop}
    (total : ∀ a b, before a b = false → before b a = true)
    (trans : ∀ a b c, before a b = true → before b c = true → before a c = true) (x : α) :
    ∀ l : List α, (∀ y ∈ l, R x y) → l.Pairwise (fun a b => before b a = true → R a b) →
      l.Pairwise (fun a b => before a b = true) →
      (insertBy before x l).Pairwise fun a b => before b a = true → R a b
  | [], _, _, _ => List.pairwise_singleton _ _
  | y :: rest, hx, h, ho => by
    have h' := List.pairwise_cons.1 h
    have ho' := List.pairwise_cons.1 ho
    unfold insertBy
    split
    · exact List.pairwise_cons.2 ⟨fun z hz _ => hx z hz, h⟩
    · rename_i hxy
      refine List.pairwise_cons.2 ⟨fun z hz hzy => ?_,
        pairwise_insertBy_stable total trans x rest (fun z hz => hx z (List.mem_cons_of_mem _ hz)) h'.2 ho'.2⟩
      rcases List.mem_cons.1 ((insertBy_perm before x rest).mem_iff.1 hz) with rfl | hz
      · exact absurd hzy hxy
      · exact h'.1 z hz hzy

theorem pairwise_sortBy_stable {α : Type} {before : α → α → Bool} {R : α → α → Prop}
    (total : ∀ a b, before a b = false → before b a = true)
    (trans : ∀ a b c, before a b = true → before b c = true → before a c = true) :
    ∀ l : List α, l.Pairwise R → (sortBy before l).Pairwise fun a b => before b a = true → R a b
  | [], _ => List.Pairwise.nil
  | x :: rest, h => by
    have h' := List.pairwise_cons.1 h
    exact pairwise_insertBy_stable total trans x _ (fun y hy => h'.1 y (mem_sortBy.1 hy))
      (pairwise_sortBy_stable total trans rest h'.2) (pairwise_sortBy total trans rest)

theorem before_total (a b : Claim) (h : Claim.before a b = false) : Claim.before b a = true := by
  simp only [Claim.before, decide_eq_true_eq, decide_eq_false_iff_not] at *; omega

theorem before_trans (a b c : Claim) (h : Claim.before a b = true) (h' : Claim.before b c = true) :
    Claim.before a c = true := by
  simp only [Claim.before, decide_eq_true_eq] at *; omega

theorem chargingSession_eq_some {s : State} {o : Outlet} {ses : Session} :
    s.chargingSession o = some ses ↔ s.slot o = some ses ∧ ses.state = .charging := by
  unfold State.chargingSession
  cases h : s.slot o with
  | none => simp
  | some v =>
    by_cases hv : v.state = .charging
    · simp only [hv, if_true, Option.some.injEq]
      exact ⟨fun e => ⟨e, e ▸ hv⟩, fun e => e.1⟩
    · simp only [hv, if_false, Option.some.injEq, reduceCtorEq, false_iff]
      rintro ⟨rfl, h⟩
      exact hv h

theorem isSome_chargingSession (s : State) (o : Outlet) : (s.chargingSession o).isSome = s.isCharging o := by
  unfold State.chargingSession State.isCharging
  cases s.slot o with
  | none => rfl
  | some v => by_cases hv : v.state = .charging <;> simp [hv]

/-- A claim of the service order is that of its outlet's charging session. -/
theorem claim_of_mem {s : State} {c : Claim} (h : c ∈ s.serviceOrder) : ∃ ses, s.slot c.outlet = some ses ∧
    ses.state = .charging ∧ c.cls = ses.cls ∧ c.stamp = (ses.charge.map (·.stamp)).getD 0 ∧
    c.minimum = (s.record c.outlet).minimum ∧ c.ceiling = (s.record c.outlet).ceiling := by
  obtain ⟨o, _, ho⟩ := List.mem_filterMap.1 (mem_sortBy.1 h)
  unfold State.claim at ho
  cases hc : s.chargingSession o with
  | none => rw [hc] at ho; cases ho
  | some ses =>
    rw [hc] at ho
    simp only [Option.map_some, Option.some.injEq] at ho
    obtain ⟨h1, h2⟩ := chargingSession_eq_some.1 hc
    subst ho
    exact ⟨ses, h1, h2, rfl, rfl, rfl, rfl⟩

theorem mem_serviceOrder (s : State) (o : Outlet) : (∃ c ∈ s.serviceOrder, c.outlet = o) ↔ s.isCharging o = true := by
  rw [← isSome_chargingSession]
  constructor
  · rintro ⟨c, hc, rfl⟩
    obtain ⟨ses, h1, h2, _⟩ := claim_of_mem hc
    rw [chargingSession_eq_some.2 ⟨h1, h2⟩]; rfl
  · intro h
    obtain ⟨ses, hs⟩ := Option.isSome_iff_exists.1 h
    exact ⟨_, mem_sortBy.2 (List.mem_filterMap.2 ⟨o, mem_allOutlets o, by unfold State.claim; rw [hs]; rfl⟩), rfl⟩

theorem claims_pairwise (s : State) : (allOutlets.filterMap s.claim).Pairwise fun a b => a.outlet < b.outlet := by
  rw [List.pairwise_filterMap]
  refine allOutlets_pairwise_lt.imp fun {a b} hab x hx y hy => ?_
  have key : ∀ {o : Outlet} {c : Claim}, s.claim o = some c → c.outlet = o := by
    intro o c h
    unfold State.claim at h
    cases hc : s.chargingSession o with
    | none => rw [hc] at h; cases h
    | some ses => rw [hc] at h; cases h; rfl
  rw [key hx, key hy]
  exact hab

/-- R124: class descending, queue stamp ascending, outlet ascending. -/
theorem serviceOrder_pairwise (s : State) : s.serviceOrder.Pairwise fun a b => b.cls < a.cls ∨
    (a.cls = b.cls ∧ (a.stamp < b.stamp ∨ (a.stamp = b.stamp ∧ a.outlet < b.outlet))) := by
  have h1 := pairwise_sortBy before_total before_trans (allOutlets.filterMap s.claim)
  have h2 := pairwise_sortBy_stable before_total before_trans _ (claims_pairwise s)
  refine (h1.and h2).imp fun {a b} h => ?_
  obtain ⟨h, h'⟩ := h
  simp only [Claim.before, decide_eq_true_eq] at h h'
  rcases h with h | ⟨h, hs⟩
  · exact .inl h
  · rcases Nat.lt_or_ge a.stamp b.stamp with hlt | hge
    · exact .inr ⟨h.symm, .inl hlt⟩
    · exact .inr ⟨h.symm, .inr ⟨by omega, h' (.inr ⟨h.symm, hge⟩)⟩⟩

theorem serviceOrder_nodup (s : State) : (s.serviceOrder.map (·.outlet)).Nodup := by
  have h : (s.serviceOrder.map (·.outlet)).Perm ((allOutlets.filterMap s.claim).map (·.outlet)) :=
    (sortBy_perm _ _).map _
  rw [h.nodup_iff]
  exact (List.pairwise_map.2 ((claims_pairwise s).imp fun h => ne_of_lt h))

/-- The service order looks at the sessions and at the records' ceilings and minimums. -/
theorem serviceOrder_congr {s t : State} (hs : t.sessions = s.sessions)
    (hr : ∀ o, (t.record o).ceiling = (s.record o).ceiling ∧ (t.record o).minimum = (s.record o).minimum) :
    t.serviceOrder = s.serviceOrder := by
  have : t.claim = s.claim := by
    funext o
    simp only [State.claim, State.chargingSession, slot_congr hs, (hr o).1, (hr o).2]
  simp only [State.serviceOrder, this]

/-! ### Sharing, R126 -/

theorem outlets_shareOut : ∀ (l : List Claim) (e : Nat), (shareOut l e).1.map (·.1) = l.map (·.outlet)
  | [], _ => rfl
  | c :: rest, e => by
    unfold shareOut
    simp only
    split
    · simp [outlets_shareOut rest]
    · simp

/-- R126: a class shares among its claims, each once. -/
theorem mem_shareClass (admitted : List Claim) (cls e : Nat) (o : Outlet) :
    (∃ n, (o, n) ∈ (shareClass admitted cls e).1) ↔ ∃ c ∈ admitted, c.cls = cls ∧ c.outlet = o := by
  have h : (∃ n, (o, n) ∈ (shareClass admitted cls e).1) ↔ o ∈ (shareClass admitted cls e).1.map (·.1) := by
    simp [List.mem_map]
  rw [h, shareClass, outlets_shareOut]
  simp [List.mem_map, mem_sortBy, and_assoc]

theorem amountFor_append (a b : List (Outlet × Nat)) (o : Outlet) :
    ((∃ n, (o, n) ∈ a) → amountFor (a ++ b) o = amountFor a o) ∧
      ((¬∃ n, (o, n) ∈ a) → amountFor (a ++ b) o = amountFor b o) := by
  unfold amountFor
  rw [List.find?_append]
  cases h : a.find? fun p => p.1 == o with
  | none => exact ⟨fun ⟨n, hn⟩ => by simpa using List.find?_eq_none.1 h _ hn, fun _ => rfl⟩
  | some p =>
    have hp : p.1 = o := by simpa using List.find?_some h
    exact ⟨fun _ => rfl, fun hn => absurd ⟨p.2, hp ▸ List.mem_of_find?_eq_some h⟩ hn⟩

/-! ### Stages 7 and 8 -/

theorem requestMany_eq (o : Outlet) : ∀ (n : Nat) (s : State), State.requestMany o n s = (fun t => State.requestModule t o)^[n] s
  | 0, _ => rfl
  | n + 1, s => by simp only [State.requestMany, requestMany_eq o n, Function.iterate_succ, Function.comp]

/-- What stages 7 and 8 leave of the dispatcher: all but the excess counters. -/
def KeepsGrants (s t : State) : Prop :=
  (∀ o, { t.record o with excess := (s.record o).excess } = s.record o) ∧
    { t.dispatcher with records := s.dispatcher.records } = s.dispatcher

theorem KeepsGrants.of_dispatcher {s t : State} (h : t.dispatcher = s.dispatcher) : KeepsGrants s t :=
  ⟨fun o => by rw [record_congr h], by rw [h]⟩

theorem KeepsGrants.trans {s t u : State} (h : KeepsGrants s t) (h' : KeepsGrants t u) : KeepsGrants s u := by
  obtain ⟨a1, a2⟩ := h
  obtain ⟨b1, b2⟩ := h'
  refine ⟨fun o => ?_, ?_⟩
  · have h1 := a1 o
    have h2 := b1 o
    rw [DispatchRecord.mk.injEq] at *
    simp only at *
    simp [h1, h2]
  · rw [Dispatcher.mk.injEq] at *
    simp only at *
    simp [a2, b2]

theorem keepsGrants_foldl {f : State → Claim → State} (h : ∀ s c, KeepsGrants s (f s c)) :
    ∀ (l : List Claim) (s : State), KeepsGrants s (l.foldl f s)
  | [], _ => .of_dispatcher rfl
  | c :: rest, s => (h s c).trans (keepsGrants_foldl h rest (f s c))

theorem keepsGrants_excessFor (s : State) (c : Claim) : KeepsGrants s (s.excessFor c) := by
  have key : ∀ n, KeepsGrants s (s.setRecord c.outlet { s.record c.outlet with excess := n }) := by
    refine fun n => ⟨fun o => ?_, rfl⟩
    by_cases h : c.outlet = o
    · subst h; simp
    · simp [h]
  unfold State.excessFor
  simp only
  repeat' split
  · exact (key 0).trans (.of_dispatcher (dispatcher_drainModule ..))
  · exact key _
  · exact key _

theorem keepsGrants_moduleStage (s : State) : KeepsGrants s s.moduleStage :=
  (keepsGrants_foldl (fun s c => .of_dispatcher (dispatcher_requestFor s c)) _ s).trans
    (keepsGrants_foldl keepsGrants_excessFor _ _)

/-- R130: an outlet without a charging session is not counted. -/
theorem record_moduleStage_of_idle {s : State} {o : Outlet} (h : s.isCharging o = false) :
    s.moduleStage.record o = s.record o := by
  have requests : ∀ (l : List Claim) (s : State), (l.foldl State.requestFor s).record o = s.record o := by
    intro l
    induction l with
    | nil => exact fun s => rfl
    | cons c rest ih => exact fun s => (ih _).trans (record_congr (dispatcher_requestFor s c) o)
  have counts : ∀ (l : List Claim) (s : State), (∀ c ∈ l, c.outlet ≠ o) →
      (l.foldl State.excessFor s).record o = s.record o := by
    intro l
    induction l with
    | nil => exact fun s _ => rfl
    | cons c rest ih =>
      intro s hc
      have hco := hc c List.mem_cons_self
      rw [List.foldl_cons, ih _ fun d hd => hc d (List.mem_cons_of_mem _ hd)]
      unfold State.excessFor
      simp only
      repeat' split
      · rw [record_congr (dispatcher_drainModule ..)]; simp [hco]
      · simp [hco]
      · simp [hco]
  unfold State.moduleStage
  simp only
  rw [counts _ _ ?_, requests]
  intro c hc e
  rw [(mem_serviceOrder s o).1 ⟨c, hc, e⟩] at h
  cases h

theorem record_of_keepsGrants {s t : State} (h : KeepsGrants s t) (o : Outlet) :
    { t.record o with excess := 0 } = { s.record o with excess := 0 } := by
  have e := h.1 o
  rw [DispatchRecord.mk.injEq] at e ⊢
  exact ⟨e.1, e.2.1, e.2.2.1, e.2.2.2.1, e.2.2.2.2.1, rfl⟩

theorem available_of_keepsGrants {s t : State} (h : KeepsGrants s t) : t.dispatcher.available = s.dispatcher.available ∧
    t.dispatcher.effectiveCap = s.dispatcher.effectiveCap ∧ t.dispatcher.capTarget = s.dispatcher.capTarget := by
  have e := h.2
  rw [Dispatcher.mk.injEq] at e
  exact ⟨e.2.2.1, e.2.1, e.1⟩

/-- R119: what a dispatch leaves in the dispatcher, but for the excess counters, is what stage 6 wrote. -/
theorem keepsGrants_dispatch (s : State) : KeepsGrants s.fundsStage.capStage.ceilingStage.grantStage s.dispatch :=
  keepsGrants_moduleStage _

theorem record_ceilingStage (s : State) (o : Outlet) : s.ceilingStage.record o = s.ceilingRecord o := by
  simp [State.ceilingStage, State.record]

theorem record_grantStage (s : State) (o : Outlet) : s.grantStage.record o =
    s.grantRecord (admitClaims s.dispatcher.available 0 s.serviceOrder)
      (shares (admitClaims s.dispatcher.available 0 s.serviceOrder) (s.dispatcher.available -
        ((admitClaims s.dispatcher.available 0 s.serviceOrder).map (·.minimum)).sum)) o := by
  simp [State.grantStage, State.record]

/-- The stages before: sessions and pool are those of stage 2, and stage 5 reads the records of stage 4. -/
theorem serviceOrder_dispatch (s : State) :
    s.dispatch.serviceOrder = s.fundsStage.capStage.ceilingStage.serviceOrder := by
  have h1 : ∀ t : State, t.moduleStage.serviceOrder = t.serviceOrder := fun t =>
    serviceOrder_congr (sessions_moduleStage t) fun o => by
      have h := (keepsGrants_moduleStage t).1 o
      rw [DispatchRecord.mk.injEq] at h
      exact ⟨h.2.1, h.2.2.1⟩
  have h2 : ∀ t : State, t.grantStage.serviceOrder = t.serviceOrder := fun t =>
    serviceOrder_congr (sessions_grantStage t) fun o => by
      rw [record_grantStage]
      unfold State.grantRecord
      repeat' split
      all_goals exact ⟨rfl, rfl⟩
  rw [State.dispatch, h1, h2]

end Sys2Proof.Laws
end

