-- ==== Sys2Proof/Laws/Layouts.lean ====
section
/-! SUPPORT. What the part sends is what the layouts of R133, R134 and R173 to R175 say, written there from the spec's tables. -/

namespace Sys2Proof.Laws

open Sys2Proof.Machine Sys2Proof.Safety

theorem ite_ne_zero {w : Nat} (x : BitVec w) (k : Nat) : (if x = 0 then 0 else k) = if (x != 0) = true then k else 0 := by
  by_cases h : x = 0 <;> simp [h]

theorem ite_eq_mul_toNat (b : Bool) (k : Nat) : (if b = true then k else 0) = k * b.toNat := by cases b <;> simp

theorem payload_settlement (n : SettlementNotices) : n.payload = settlementLayout n := by
  have bits : ∀ a b c d e f : Bool, byteOfBits [a, b, c, d, e, f] =
      BitVec.ofNat 8 ((if a then 1 else 0) + (if b then 2 else 0) + (if c then 4 else 0) + (if d then 8 else 0) +
        (if e then 16 else 0) + if f then 32 else 0) := by
    intros; simp only [byteOfBits, List.foldr, ite_eq_mul_toNat]; congr 1; ring
  simp only [SettlementNotices.payload, SettlementNotices.kinds, settlementLayout, ite_ne_zero, bits]

theorem payload_site (n : SiteNotices) : n.payload = siteNoticeLayout n := by
  have bits : ∀ a b c d e f g : Bool, byteOfBits [a, b, c, d, e, f, g] =
      BitVec.ofNat 8 ((if a then 1 else 0) + (if b then 2 else 0) + (if c then 4 else 0) + (if d then 8 else 0) +
        (if e then 16 else 0) + (if f then 32 else 0) + if g then 64 else 0) := by
    intros; simp only [byteOfBits, List.foldr, ite_eq_mul_toNat]; congr 1; ring
  simp only [SiteNotices.payload, SiteNotices.kinds, siteNoticeLayout, ite_ne_zero, bits]

theorem bytes_record (r : ClosureRecord) : r.bytes = recordLayout r := by
  have f : r.flagsByte = BitVec.ofNat 8 ((if r.capped then 1 else 0) + (if r.meterDisagree then 2 else 0) +
      (if r.timeStepped then 4 else 0) + (if r.timeSlewed then 8 else 0) + if r.holdoverSeen then 16 else 0) := by
    unfold ClosureRecord.flagsByte
    cases r.capped <;> cases r.meterDisagree <;> cases r.timeStepped <;> cases r.timeSlewed <;>
      cases r.holdoverSeen <;> rfl
  have p : r.presenceByte =
      BitVec.ofNat 8 ((if r.meterDelta.isSome then 1 else 0) + if r.chargeStart.isSome then 2 else 0) := by
    unfold ClosureRecord.presenceByte
    cases r.meterDelta.isSome <;> cases r.chargeStart.isSome <;> rfl
  have b : r.bands.flatMap ClosedBand.bytes =
      r.bands.flatMap fun b => toBytes 2 b.start ++ toBytes 4 b.price ++ toBytes 4 b.subtotal := rfl
  unfold ClosureRecord.bytes recordLayout
  rw [f, p, b]
  simp only [List.append_assoc]

/-- R174: the bytes and fields of a state as the view reads them. -/
theorem stateView_eq (st : SessionState) : stateView st =
    ⟨[st.code, st.suspendedFromCode, (st.endReason?.map EndReason.code).getD 0xFF], st.stopTime?, st.armDeadline?,
      st.suspendDeadline?, st.settleDeadline?, st.closure?⟩ := by
  cases st with
  | suspended f d => cases f <;> rfl
  | _ => rfl

theorem view_session (ses : Session) (o : Outlet) (elapsed : Nat) :
    ses.view o elapsed = sessionViewLayout ses o elapsed := by
  have bits : ∀ a b c d e f : Bool, byteOfBits [a, b, c, d, e, f] =
      BitVec.ofNat 8 ((if a then 1 else 0) + (if b then 2 else 0) + (if c then 4 else 0) + (if d then 8 else 0) +
        (if e then 16 else 0) + if f then 32 else 0) := by
    intros; simp only [byteOfBits, List.foldr, ite_eq_mul_toNat]; congr 1; ring
  have presence : ∀ a b c d e f : Bool, byteOfBits [a, a, a, b, c, d, e, f] =
      BitVec.ofNat 8 ((if a then 7 else 0) + (if b then 8 else 0) + (if c then 16 else 0) + (if d then 32 else 0) +
        (if e then 64 else 0) + if f then 128 else 0) := by
    intros; simp only [byteOfBits, List.foldr, ite_eq_mul_toNat]; congr 1; ring
  unfold Session.view sessionViewLayout Session.flagsByte Session.presenceByte remaining
  rw [bits, presence]
  simp only [stateView_eq]

theorem reasonCode_eq (st : ModuleState) : st.reasonCode = reasonByte st := by
  cases st with
  | faulted r => cases r <;> rfl
  | _ => rfl

theorem sum_measured (s : State) : s.sumOfMeasured =
    (((allOutlets.filter fun o => s.present o).filterMap fun o => (s.exchange o).heldReport).map (·.measured)).sum := by
  unfold State.sumOfMeasured
  generalize allOutlets = l
  induction l with
  | nil => rfl
  | cons o rest ih =>
    rw [List.map_cons, List.sum_cons, ih, List.filter_cons]
    by_cases h : s.present o
    · cases g : (s.exchange o).heldReport <;> simp [h, g]
    · simp [h]

theorem sitePayload_eq (s : State) : s.sitePayload = siteLayout s := by
  simp only [State.sitePayload, siteLayout, sum_measured, reasonCode_eq, State.poolCapacity, State.rating,
    State.sumOfGrants]
  cases s.dispatcher.capTarget
  · have : toBytes 2 65535 ++ toBytes 4 0 = [0xFF, 0xFF, 0, 0, 0, 0] := by decide
    simp only [Option.map_none, Option.getD_none, this]
  · rfl

theorem outletPayload_eq (s : State) (o : Outlet) : s.outletPayload o = outletLayout s o := by
  have count : ∀ (code : Byte) (inState : ModuleState → Bool),
      (∀ st, (st.assigned == some o && st.code == code) = inState st) →
      s.countInState o code = allModules.countP fun m => inState (s.module m).state := by
    intro code inState h
    simp only [State.countInState, h]
  simp only [State.outletPayload, outletLayout, List.flatMap_cons, List.flatMap_nil, List.append_nil, List.append_assoc]
  rw [count 2 (fun | .switching p _ _ => p == o | _ => false) (fun st => by cases st <;> simp [ModuleState.assigned, ModuleState.code]),
    count 3 (fun | .warming p _ => p == o | _ => false) (fun st => by cases st <;> simp [ModuleState.assigned, ModuleState.code]),
    count 4 (fun | .active p => p == o | _ => false) (fun st => by cases st <;> simp [ModuleState.assigned, ModuleState.code]),
    count 5 (fun | .draining p _ => p == o | _ => false) (fun st => by cases st <;> simp [ModuleState.assigned, ModuleState.code]),
    count 6 (fun | .opening p _ => p == o | _ => false) (fun st => by cases st <;> simp [ModuleState.assigned, ModuleState.code])] <;> rfl

end Sys2Proof.Laws
end

