-- ==== Sys2Proof/Tests/Slice0.lean ====
section
/-! SUPPORT. The model's own tests: ill-formed commands, frames written out from the spec, figures of its worked cases, and a state
that meets the hypotheses of each statement. -/

namespace Sys2Proof.Tests

open Sys2Proof.Machine Sys2Proof.Safety Sys2Proof.Laws

-- One test after another: run side by side, the tests hold more threads than the compile has memory for.
set_option Elab.async false

/-! ### Ill-formed commands: one for each check -/

/-- A frame whose bytes are one short of what its length asks. -/
def shortFrame : RawFrame := { length := 1, rest := [0x38, 0] }

theorem test_illformed_writePlan : (Instr.writePlan 0 0 0 0 1 (List.replicate 185 0)).wellFormed = false := by decide +kernel
theorem test_illformed_moduleServiceOut : (Instr.moduleServiceOut 0 1).wellFormed = false := by decide
theorem test_illformed_readCounters : (Instr.readCounters 1 0).wellFormed = false := by decide
theorem test_illformed_badFrame : (Instr.badFrame .site shortFrame).wellFormed = false := by decide
theorem test_illformed_unknownRequest : (Instr.unknownRequest .site shortFrame).wellFormed = false := by decide
theorem test_illformed_requestGapTimeout_none : (Instr.requestGapTimeout .site []).wellFormed = false := by decide
theorem test_illformed_requestGapTimeout_start : (Instr.requestGapTimeout .site [0x5A]).wellFormed = false := by decide
theorem test_illformed_requestGapTimeout_whole :
    (Instr.requestGapTimeout .site [0xA5, 1, 0x38, 0, 0]).wellFormed = false := by decide
theorem test_illformed_cabinetFrameError : (Instr.cabinetFrameError shortFrame).wellFormed = false := by decide
theorem test_illformed_unusableMessage : (Instr.unusableMessage shortFrame).wellFormed = false := by decide
theorem test_illformed_cabinetGapTimeout : (Instr.cabinetGapTimeout [0x5A]).wellFormed = false := by decide
theorem test_illformed_gapTimeOut :
    (Instr.gapTimeOut 0 0).wellFormed = false ∧ (Instr.gapTimeOut 0 15).wellFormed = false := by decide
theorem test_illformed_reportDiscard : (Instr.reportDiscard 0 0 .gap).wellFormed = false ∧
    (Instr.reportDiscard 0 14 .gap).wellFormed = false ∧ (Instr.reportDiscard 0 15 (.address 3)).wellFormed = false ∧
    (Instr.reportDiscard 0 0 .notYet).wellFormed = false := by decide
theorem test_illformed_unaddressedFrame : (Instr.unaddressedFrame 15 .gap).wellFormed = false := by decide
theorem test_wellformed_at_the_bounds :
    (Instr.writePlan 0 0 0 0 1 (List.replicate 184 0)).wellFormed = true ∧ (Instr.gapTimeOut 0 14).wellFormed = true ∧
      (Instr.reportDiscard 0 16 .gap).wellFormed = true ∧ (Instr.reportDiscard 0 14 (.address 3)).wellFormed = true ∧
      (Instr.reportDiscard 0 1 .notYet).wellFormed = true ∧ (Instr.reportDiscard 0 15 .notYet).wellFormed = true ∧
      (Instr.unaddressedFrame 16 .gap).wellFormed = true ∧
      (Instr.requestGapTimeout .site [0xA5, 1, 0x38, 0]).wellFormed = true := by decide +kernel

/-! ### Bytes from the spec -/

/-- R1: the check of the nine characters "123456789" is 0x29B1. -/
theorem test_frameCheck_figure :
    frameCheck [0x31, 0x32, 0x33, 0x34, 0x35, 0x36, 0x37, 0x38, 0x39] = 0x29B1 := by decide +kernel

/-- 10.5: the frame of SET_CAP with 250.0 kW and 90 s, byte by byte, its check apart. -/
theorem test_setCap_frame_bytes :
    (requestFrame 0x30 [0x09, 0xC4, 0x00, 0x5A]).length = 0x05 ∧
      (requestFrame 0x30 [0x09, 0xC4, 0x00, 0x5A]).content = [0x30, 0x09, 0xC4, 0x00, 0x5A] ∧
      judgeFrame .site (requestFrame 0x30 [0x09, 0xC4, 0x00, 0x5A]) = .request (.setCap 2500 90) := by decide +kernel

/-- 10.5: with a noisy byte 4 the check fails. -/
theorem test_setCap_noisy_frame : judgeFrame .site
    { requestFrame 0x30 [0x09, 0xC4, 0x00, 0x5A] with
      rest := (requestFrame 0x30 [0x09, 0xC4, 0x00, 0x5A]).rest.set 2 0xC5 } = .badFrame := by decide +kernel

/-- R169, R170: payloads written out by hand for one request of each group. -/
theorem test_payloads_decode :
    requestOf .settlement 0x11 [0, 0, 0, 7, 0, 0, 1, 0] = some (.topup 7 256) ∧
      requestOf .settlement 0x16 [3, 0, 0, 0x88, 0xB8, 0, 6, 0x1A, 0x80, 10, 1, 0, 0, 0, 0, 0x79, 0xE0] =
        some (.writePlan 3 35000 400000 10 1 [0, 0, 0, 0, 0x79, 0xE0]) ∧
      requestOf .site 0x31 [0x01, 0x92, 0x45, 0x67, 0x89, 0xAB] = some (.timeRef 0x0192456789AB) ∧
      requestOf .site 0x32 [0x21, 3, 0, 0, 0x0D, 0xAC] = some (.configWrite 0x21 3 3500) ∧
      requestOf .site 0x36 [12, 0] = some (.moduleServiceOut 12 0) ∧
      requestOf .site 0x36 [12, 1] = some (.moduleServiceIn 12) ∧
      requestOf .site 0x3A [1, 0] = some (.readCountersClear 0) ∧
      requestOf .site 0x3A [0, 2] = some (.readCounters 0 2) := by decide

/-- R177: CONFIRM(M12, O5), CONFIRM(M13, none) and FAULT_ON(M14) as the cabinet sends them. -/
theorem test_cabinet_messages_decode :
    cabinetMessageOf 0x81 [12, 5] = some (.confirm 12 (some 5)) ∧
      cabinetMessageOf 0x81 [13, 0xFF] = some (.confirm 13 none) ∧ cabinetMessageOf 0x82 [14] = some (.faultOn 14) ∧
      cabinetMessageOf 0x81 [32, 0] = none ∧ cabinetMessageOf 0x81 [0, 16] = none := by decide

/-- R177: ROUTE(M12, O5) on the link, its check apart. -/
theorem test_route_bytes : (CabinetMsg.route 12 5).bytes.take 5 = [0xA5, 3, 0x01, 12, 5] ∧
    (CabinetMsg.unroute 12).bytes.take 4 = [0xA5, 2, 0x02, 12] := by decide +kernel

/-! ### A small park -/

/-- O0 of the small park. -/
def items : OutletItems :=
  { present := true, maximum := some 500, minimum := some 60, ramp := some 200, moduleLimit := 2, pulseWeight := 10,
    pulseMinWidth := 5 }

/-- 2.12: plan 3. -/
def plan3 : Plan :=
  { valid := true, sessionFee := 35000, idleFee := 400000, grace := 10,
    bands := [⟨0, 31200⟩, ⟨420, 52800⟩, ⟨1260, 31200⟩] }

/-- A valid configuration: O0 is present and M0 reaches it. -/
def control : ModeControl :=
  { mode := .maintenance
    park := { ParkItems.reset with moduleRating := some 400, siteRamp := some 500, fallbackCap := some 2500 }
    outlets := (Vector.replicate 16 OutletItems.reset).set 0 items
    modules := (Vector.replicate 32 ModuleItems.reset).set 0 { inService := true, reach := 1 }
    cycleTimer := none }

/-- The part in MAINTENANCE with a valid configuration, its clock SYNCED, plan 3 written. -/
def idlePark : State :=
  { State.reset with
    control := control
    clock := { Clock.reset with
      elapsed := 1000, parkTime := 36000000, sync := .synced, holdoverDeadline := some 600500 }
    plans := (Vector.replicate 8 Plan.reset).set 3 plan3
    line := { LineController.reset with rx := .waiting } }

/-- The park in OPERATING, O0 ONLINE, M0 FREE, an expiry reached. -/
def park : State :=
  { idlePark with
    control := { control with mode := .operating, cycleTimer := some 1000 }
    line := { idlePark.line with
      cycleNumber := 4711
      outlets := (Vector.replicate 16 OutletLink.reset).set 0 { link := .online, miss := 0, published := 400, discards := 0 } }
    pool := { idlePark.pool with
      modules := (Vector.replicate 32 Module.reset).set 0 { state := .free, reach := 1, leaving := false, indication := .none } } }

/-- A session in a state. -/
def session (st : SessionState) : Session :=
  { number := 7, state := st, paymentRef := Vector.replicate 12 0, cls := 1, hold := 2000
    tariff := { plan := 3, sessionFee := 35000, idleFee := 400000, grace := 10,
                bands := [⟨0, 31200⟩, ⟨420, 52800⟩, ⟨1260, 31200⟩] }
    charge := some { stamp := 1, meterStart := 880000, lastMeter := 881262, startTime := 35900000 }
    feeCharged := 35000, energyCharge := 38376, energyRemainder := 0, idleCharge := 0, pulseEnergy := 1230
    bandSubtotals := [1230, 0, 0], parkedElapsed := 660000, minutesAccrued := 10, idleMinutes := 0
    armTime := 35000000, fundsLowSent := false, timeStepped := false, timeSlewed := false, holdoverSeen := false }

/-- The park with the session of O0 in a state. -/
def withSession (st : SessionState) : State := park.setSlot 0 (some (session st))

/-- The park with M0 in a state. -/
def withModule (st : ModuleState) : State := park.setModuleState 0 st

/-- The state a step answers. -/
def after (x : Host.Outcome State Fault Refusal) : State :=
  match x with
  | .next t => t
  | _ => State.reset

/-- The last response on the site port. -/
def lastSite (s : State) : Option Response := s.ports.site.responses.getLast?

def lastSettlement (s : State) : Option Response := s.ports.settlement.responses.getLast?

theorem listening_park (st : SessionState) : Listening (withSession st) .settlement ∧ Listening (withSession st) .site :=
  ⟨⟨rfl, by show 0 < 8; decide⟩, ⟨rfl, by show 0 < 8; decide⟩⟩

theorem slot_park (p : Outlet) : park.slot p = none := by revert p; decide

theorem holdsNumber_withSession (st : SessionState) : HoldsNumber (withSession st) 0 (session st) 7 := by
  refine ⟨by simp [withSession], rfl, fun p v h _ => ?_⟩
  by_contra hp
  have e : (withSession st).slot p = park.slot p := by simp [withSession, Ne.symm hp]
  rw [e, show park.slot p = none from slot_park p] at h
  cases h

/-! ### Figures of the worked cases -/

/-- 2.8: four filtered references, from trim 0 and S 0. -/
theorem test_filter_figures :
    let c0 : Clock := { Clock.reset with sync := .synced, parkTime := 1000000 }
    let c1 := c0.filter 1000024 3
    let c2 := c1.filter 1000016 3
    let c3 := c2.filter 1000005 3
    let c4 := c3.filter 999991 3
    (c1.smoothed, c1.trim) = (3, 3) ∧ (c2.smoothed, c2.trim) = (4, 7) ∧ (c3.smoothed, c3.trim) = (4, 11) ∧
      (c4.smoothed, c4.trim) = (3, 14) ∧ adjustInterval c4.trim = 71428 := by decide

/-- 2.8: the reference after a slew, and the one after that. -/
theorem test_slew_figures :
    let c0 : Clock := { Clock.reset with sync := .synced, parkTime := 1000000, trim := -500, slewing := true }
    let c1 := c0.filter (1000000 - 1700) 3
    let c2 := c1.filter (1000000 - 1573) 3
    (c1.smoothed, c1.trim, c1.slewing) = (-212, -212, false) ∧ (c2.smoothed, c2.trim) = (-382, -500) := by decide

/-- 2.12: band in force and guard price at 06:58:10, 06:59:59.999, 07:00, 20:59:30 and 23:59:30. -/
theorem test_guardPrice_figures :
    ([25090000, 25199999, 25200000, 75570000, 86370000].map fun t =>
      ((bandInForce plan3.bands t), (session .charging).guardPrice t)) =
      [((0, 31200), 31200), ((0, 31200), 52800), ((1, 52800), 52800), ((1, 52800), 52800), ((2, 31200), 31200)] := by
  decide

/-- 4.9: the allowance and the count over the rows. -/
theorem test_overdraw_figures :
    ([(1200, 1248), (800, 912), (800, 840), (800, 796), (0, 65), (0, 41), (0, 30)].map fun p => excessive p.1 p.2) =
      [false, true, false, false, true, true, true] := by decide

/-- 4.10: a register that wraps, and a short session. -/
theorem test_meterDelta_figures :
    let a : Session := { session .charging with
      pulseEnergy := 19950, charge := some { stamp := 1, meterStart := 4294960000, lastMeter := 12700, startTime := 0 } }
    a.meterDelta = some 19996 ∧ a.meterDisagree = false ∧ (session .charging).meterDelta = some 1262 ∧
      (session .charging).meterDisagree = true ∧ ({ session .charging with charge := none } : Session).meterDelta = none := by
  decide

/-- 5.10: five pulses across 16:00, the headroom at pulse 5 and at 16:59:00.400, the funds power limit there. -/
theorem test_pricing_figures :
    let s0 : Session := { session .charging with
      tariff := { plan := 5, sessionFee := 35000, idleFee := 250000, grace := 15,
                  bands := [⟨0, 44250⟩, ⟨900, 59490⟩, ⟨960, 44250⟩, ⟨1020, 59490⟩, ⟨1200, 44250⟩] }
      energyCharge := 0, pulseEnergy := 0, bandSubtotals := [0, 0, 0, 0, 0] }
    let s5 := ((((s0.bill 10 57599210).bill 10 57599570).bill 10 57599930).bill 10 57600290).bill 10 57600650
    (s5.energyCharge, s5.energyRemainder, s5.pulseEnergy, s5.bandSubtotals) = (2669, 700, 50, [0, 30, 20, 0, 0]) ∧
      (s5.accrued, s5.headroom, s5.energyHeadroom 57600654) = (37669, 1962331, 44346) ∧ s5.rounded = 38 ∧
      s5.energyHeadroom 61140400 = 32985 ∧ s5.fundsLimit 61140400 50 500 = 40000 := by decide

/-- 7.12: sharing in one dispatch, and with little room at O9. -/
theorem test_sharing_figures :
    let claims (c9 : Nat) : List Claim := [⟨3, 1, 1, 3500, 100⟩, ⟨0, 0, 2, 1500, 100⟩, ⟨7, 0, 3, 2000, 100⟩, ⟨9, 0, 4, c9, 100⟩]
    availablePower 5000 6400 200 = 4800 ∧ admitClaims 4800 0 (claims 600) = claims 600 ∧
      ([3, 0, 7, 9].map fun o => amountFor (shares (claims 600) 4400) o) = [3400, 333, 333, 333] ∧
      ([3, 0, 7, 9].map fun o => amountFor (shares (claims 400) 4400) o) = [3400, 350, 350, 300] := by decide +kernel

/-- 6.9: O0 with one ACTIVE module of 400 steps and a grant of 433 is sent RUN with 400. -/
theorem test_setpoint_figures :
    let s := ((withSession .charging).setModuleState 0 (.active 0)).setRecord 0
      { demand := 900, ceiling := 500, minimum := 60, grant := 433, admission := .admitted, excess := 0 }
    s.command 0 = .run ∧ s.setpoint 0 = 400 ∧ s.activeCount 0 = 1 ∧ s.command 1 = .idle := by decide +kernel

/-- 8.9: an outlet release reaches a WARMING module, which opens with its UNROUTE sent. -/
theorem test_stop_releases_modules :
    let s := after (exec (.stop 7) ((withSession .charging).setModuleState 0 (.warming 0 2000)))
    (s.module 0).state = .opening 0 1300 ∧ s.pool.cabinet.sending = some (.unroute 0) ∧
      ((s.slot 0).map (·.state)) = some (.stopping .operator 36000000 none) ∧
      s.notices.settlement.stopping = 1 ∧ lastSettlement s = some ⟨0x12, .ok, []⟩ := by decide +kernel

/-- 8.9: the last module's open time-out reports the outlet, and the settle deadline is set. -/
theorem test_opening_timeout_reports :
    let s := after (exec (.openingTimeout 0)
      ((withSession (.stopping .operator 36000000 none)).setModuleState 0 (.opening 0 1000)))
    (s.module 0).state = .faulted .confirmTimeout ∧ s.notices.site.moduleFault = 1 ∧
      ((s.slot 0).map (·.state)) = some (.stopping .operator 36000000 (some 3000)) := by decide

/-! ### One step on the small park for each kind of command -/

/-- A report frame with the check the spec's R1 gives it: echo, state, flags, requested, measured, meter. -/
def report (echo st flags requested measured meter : Nat) : Vector Byte 14 :=
  let bytes := withCheck (toBytes 2 echo ++ toBytes 1 st ++ toBytes 1 flags ++ toBytes 2 requested ++ toBytes 2 measured ++
    toBytes 4 meter)
  Vector.ofFn fun i => bytes.getD i.val 0

theorem test_report_accepted :
    let s := after (exec (.reportFrame 0 (report 4711 3 0 900 395 881300) .gap) park)
    (s.exchange 0).latest = some 0 ∧ (s.exchange 0).writing = 1 ∧
      (s.exchange 0).buffers[(0 : Fin 3)] = some ⟨4711, .charging, false, 900, 395, 881300⟩ := by decide +kernel

theorem test_report_discarded :
    (after (exec (.reportFrame 0 ((report 4711 3 0 900 395 881300).set 0 0xFF) .gap) park)).link 0 =
      { link := .online, miss := 0, published := 400, discards := 1 } := by decide +kernel

/-- The park with a LATEST report in buffer 0. -/
def withLatest (r : Report) (s : State) : State :=
  s.setExchange 0 { buffers := (Vector.replicate 3 none).set 0 (some r), writing := 1, latest := some 0, held := none }

theorem test_first_entry_at_an_expiry :
    let s := after (exec (.cycleExpiry true)
      (withLatest ⟨4711, .ready, false, 900, 0, 880000⟩ ((withSession (.armed 5000)).setSlot 0
        (some { session (.armed 5000) with charge := none, feeCharged := 0 }))))
    ((s.slot 0).map fun v => (v.state, v.feeCharged, v.charge)) =
        some (.charging, 35000, some { stamp := 1, meterStart := 880000, lastMeter := 880000, startTime := 36000000 }) ∧
      s.sessions.nextStamp = 2 ∧ s.control.cycleTimer = some 1500 ∧ s.line.cycleNumber = 4712 ∧
      s.line.sending.isSome = true ∧ (s.record 0).admission = .admitted ∧ (s.module 0).state = .switching 0 1300 false ∧
      s.pool.cabinet.sending = some (.route 0 0) ∧ s.notices.settlement.charging = 1 := by decide +kernel

/-- R114, R176: 69 characters, the first 0x1F with the mark bit and the others without. -/
theorem test_setpoint_frame_characters :
    (after (exec (.cycleExpiry true) park)).line.sending.map (fun f => (f.length, f.map LineChar.mark, f.head?)) =
      some (69, true :: List.replicate 68 false, some ⟨true, 0x1F⟩) := by decide +kernel

/-- R102: the role of a frame begun on an idle line stays through STOP_PARK and passes to buffer 0 when the frame ends. -/
theorem test_stopPark_during_a_frame :
    let begun := after (exec (.reportDiscard 0 3 .notYet) (park.setExchange 0 { Exchange.reset with writing := 1 }))
    let stopped := after (exec .stopPark begun)
    begun.line.rx = .assembling 0 ∧ stopped.control.mode = .maintenance ∧ (stopped.exchange 0).writing = 1 ∧
      ((after (exec (.gapTimeOut 0 3) stopped)).exchange 0).writing = 0 ∧
      (after (exec (.gapTimeOut 0 3) stopped)).line.rx = .waiting ∧
      ((after (exec .stopPark (park.setExchange 0 { Exchange.reset with writing := 1 }))).exchange 0).writing = 0 := by
  decide +kernel

theorem test_arm_answers_the_number :
    let s := after (exec (.arm 0 2000 3 1 (Vector.replicate 12 0)) park)
    lastSettlement s = some ⟨0x10, .ok, [0, 0, 0, 1]⟩ ∧ s.sessions.nextNumber = 2 ∧
      ((s.slot 0).map fun v => (v.state, v.armTime, v.bandSubtotals)) =
        some (.armed 181000, 36000000, [0, 0, 0]) := by decide

theorem test_settle_deadline_closes :
    let s := after (exec (.settleDeadline 0) (withSession (.stopping .user 36000000 (some 1000))))
    s.slot 0 = none ∧ s.notices.settlement.closureReady = true ∧
      s.closures.map (fun r => (r.number, r.billed, r.accrued, r.capped, r.meterDisagree)) = [(7, 73, 73376, false, true)] := by
  decide

theorem test_startPark : (after (exec .startPark idlePark)).control.mode = .operating ∧
    ((after (exec .startPark idlePark)).module 0).state = .free ∧
    lastSite (after (exec .startPark State.reset)) = some ⟨0x34, .invalidConfig, [1, 0xFF]⟩ := by decide +kernel

theorem test_withFetchWord_spells_nothing (nbits w : Nat) : State.reset.withFetchWord nbits w = State.reset := rfl

theorem test_step_runs_the_front :
    (after (step (park.withCommand .readSite))).pending = [] ∧
      (lastSite (after (step (park.withCommand .readSite)))).map (·.payload.length) = some 82 := by decide

/-! ### A state that meets the hypotheses of each statement, with the bounds of its clauses -/

theorem slot_withSession_other (st : SessionState) {p : Outlet} (h : p ≠ 0) : (withSession st).slot p = none := by
  rw [← slot_park p]; simp [withSession, Ne.symm h]

theorem slot_withSession (st : SessionState) : (withSession st).slot 0 = some (session st) := by simp [withSession]

theorem listening_state : Listening park .settlement ∧ Listening park .site ∧ Listening idlePark .site ∧
    Listening State.reset .site :=
  ⟨⟨rfl, by decide⟩, ⟨rfl, by decide⟩, ⟨rfl, by decide⟩, ⟨rfl, by decide⟩⟩

theorem noSlotHolds_park (n : Nat) : NoSlotHolds park n := fun p v h => by rw [slot_park p] at h; cases h

/-- A closure record. -/
def record : ClosureRecord := (session .charging).close 0 .user 36000000 36002000

theorem test_meets_StepRunsFrontCommand :
    (park.withCommand .readSite).pending = [.readSite] ∧ park.pending = [] := ⟨rfl, rfl⟩

theorem test_meets_CommandsKeepTheQueue : ∃ t, exec .readSite park = .next t := ⟨_, rfl⟩

theorem test_meets_ResetHoldsThePart :
    ({ park with held := true } : State).held = true ∧ Instr.readSite ≠ .reset ∧ Instr.readSite ≠ .resetRelease := by decide

theorem test_meets_ResponsesLeaveInOrder : park.held = false ∧
    ((after (exec .peekClosure park)).port .settlement).responses = [⟨0x14, .empty, []⟩] := by decide

/-- The park with 8 responses held on the site port. -/
def fullPort : State := park.setPort .site { Port.reset with responses := List.replicate 8 ⟨0x38, .ok, []⟩ }

theorem test_meets_FullPortCountsAnOverrun : fullPort.held = false ∧ (fullPort.port .site).responses.length = 8 ∧
    encodeRequest .readSite = some (.site, 0x38, []) ∧ (requestFrame 0x38 []).complete = true := by decide +kernel

theorem test_meets_FramesWithoutOwnerAnswered :
    (∀ f ∈ [({ length := 0, rest := [0, 0] } : RawFrame), { length := 197, rest := List.replicate 199 0 }],
      f.complete = true ∧ (f.length = 0#8 ∨ 196 < f.length.toNat)) ∧
    (shortFrame.complete = false ∧ ({ length := 1, rest := [0x38, 0, 0] } : RawFrame).complete = true ∧
      ({ length := 1, rest := [0x38, 0, 0] } : RawFrame).checkOk = false) ∧
    (∀ f ∈ [requestFrame 0x99 [], requestFrame 0x10 (List.replicate 20 0)],
      f.complete = true ∧ f.length ≠ 0#8 ∧ f.length.toNat ≤ 196 ∧ f.checkOk = true ∧
        acceptsCode .site (byteAt f.rest 0).toNat = false) ∧
    (requestFrame 0x38 [1]).complete = true ∧ (requestFrame 0x38 [1]).checkOk = true ∧
      acceptsCode .site 0x38 = true ∧ requestOf .site 0x38 [1] = none := by decide +kernel

theorem test_meets_GapTimeoutsCounted : park.held = false ∧ (park.port .site).rx = .hunting ∧
    park.pool.cabinet.rx = .hunting ∧ isPartialFrame [0xA5] = true ∧ isPartialFrame [0xA5, 0, 1] = true ∧
    isPartialFrame [0xA5, 0, 1, 2] = false := by decide

theorem test_meets_CountersReadAndCleared : (1 ≤ (1 : Byte).toNat ∧ (3 : Byte).toNat ≤ 3) ∧ 1 < (2 : Byte).toNat ∧
    3 < (4 : Byte).toNat ∧ (1 : Byte) ≠ 0 := by decide

theorem test_meets_ReadsChangeNothingElse : 16 ≤ (16 : Byte).toNat ∧ (15 : Byte).toNat = (15 : Outlet).val ∧
    park.slot 0 = none ∧ (withSession .parked).slot 0 = some (session .parked) ∧ ConfigRef.of 0x40 0 = none ∧
    ConfigRef.of 0x21 16 = none ∧ ConfigRef.of 0x21 15 = some (.outlet .maximum 15) ∧
    park.control.read (.outlet .maximum 15) = none ∧ park.control.read (.outlet .maximum 0) = some 500 := by decide +kernel

theorem test_meets_PlanRead : 8 ≤ (8 : Byte).toNat ∧ (7 : Byte).toNat = (7 : Fin 8).val ∧
    bandsWellFormed (park.plan 3).bands = true := by decide

theorem test_meets_PlanInvalidated : (park.plan 7).valid = false ∧ (park.plan 3).valid = true := by decide

/-- One band of a payload at minute 0. -/
def bandBytes : List Byte := [0, 0, 0, 0x1E, 0x84, 0x80]

theorem test_meets_PlanWritten_refusals : 8 ≤ (8 : Byte).toNat ∧ 6 < (7 : Byte).toNat ∧ bandBytes.length ≠ 6 * (2 : Byte).toNat ∧
    5000000 < (5000001 : BitVec 32).toNat ∧ 240 < (241 : Byte).toNat ∧
    bandsWellFormed (bandsOf 2 (bandBytes ++ bandBytes)) = false ∧
    bandsWellFormed (bandsOf 1 [0, 1, 0, 0, 0, 0]) = false ∧
    bandsWellFormed (bandsOf 1 [0, 0, 0, 0x1E, 0x84, 0x81]) = false := by decide

theorem test_meets_PlanWritten : bandBytes.length = 6 * (1 : Byte).toNat ∧ (5000000 : BitVec 32).toNat ≤ 5000000 ∧
    (240 : Byte).toNat ≤ 240 ∧ bandsWellFormed (bandsOf 1 bandBytes) = true ∧
    bandsWellFormed [⟨0, 1⟩, ⟨1, 2⟩, ⟨2, 3⟩, ⟨3, 4⟩, ⟨4, 5⟩, ⟨1439, 2000000⟩] = true := by decide

theorem test_meets_ClosurePeeked : park.closures = [] ∧ ({ park with closures := [record] } : State).closures = [record] :=
  ⟨rfl, rfl⟩

/-- Two sessions wait with one stamp, on O0 and O1. -/
def twoWait : State :=
  ({ park with closures := [record] } : State).setSlot 1 (some (session (.closedWait record 5)))
    |>.setSlot 0 (some (session (.closedWait record 5)))

theorem test_meets_ClosureReleased : (7 : BitVec 32).toNat = record.number ∧ (8 : BitVec 32).toNat ≠ record.number ∧
    twoWait.waiters.map (fun w => (w.outlet, w.stamp)) = [(0, 5), (1, 5)] ∧
    (firstWaiter twoWait.waiters).map (·.outlet) = some 0 := by decide +kernel

theorem test_meets_NoticesSwapped : (∃ t, exec (.swapNotices .site) park = .next t) ∧
    (∃ t, exec (.swapNotices .settlement) park = .next t) ∧ park.attention .site = false ∧
    (park.raise .openingSkipped).attention .site = true ∧ (park.raiseOutlet .fundsLow 15).attention .settlement = true ∧
    ({ park.raise .openingSkipped with held := true } : State).attention .site = false :=
  ⟨⟨_, rfl⟩, ⟨_, rfl⟩, by decide, by decide, by decide, by decide⟩

theorem test_meets_ConfigurationWritten : park.control.mode = .operating ∧ idlePark.control.mode = .maintenance ∧
    ConfigRef.of 0x26 0 = some (.outlet .pulseMinWidth 0) ∧ ConfigRef.of 0x26 16 = none ∧
    (ConfigRef.outlet .pulseMinWidth 0).inRange 51 = false ∧ (ConfigRef.outlet .pulseMinWidth 0).inRange 1 = false ∧
    (ConfigRef.outlet .pulseMinWidth 0).inRange 50 = true ∧ (ConfigRef.outlet .pulseMinWidth 0).inRange 2 = true ∧
    ConfigRef.outlet .pulseMinWidth 0 ≠ .outlet .pulseMinWidth 1 := by decide

theorem test_meets_ParkStarted : State.reset.control.failedCheck = some (1, 0xFF) ∧
    idlePark.control.failedCheck = none ∧ park.control.mode = .operating := by decide +kernel

/-- Each check of START_PARK fails first somewhere, with its subject. -/
theorem test_meets_ConfigurationChecked :
    (control.write 0 (.outlet .present 0)).failedCheck = some (2, 0xFF) ∧
      (control.write 501 (.outlet .minimum 0)).failedCheck = some (3, 0) ∧
      (control.write 1 (.module .inService 31)).failedCheck = some (4, 31) ∧
      (control.write 1 (.outlet .present 15) |>.write 10 (.outlet .minimum 15) |>.write 10 (.outlet .maximum 15)
        |>.write 10 (.outlet .ramp 15)).failedCheck = some (5, 15) ∧
      (control.write 137 (.park .cyclePeriod)).failedCheck = some (6, 0xFF) ∧
      (control.write 138 (.park .cyclePeriod)).failedCheck = none := by decide +kernel

theorem test_meets_ParkStopped : idlePark.control.mode = .maintenance ∧ ((withSession .charging).slot 0).isSome = true ∧
    ((withModule (.opening 0 5)).module 0).state.assigned.isSome = true ∧
    (∀ o, park.slot o = none) ∧ ∀ m, (park.module m).state.assigned = none := by decide +kernel

theorem test_meets_ReferenceDisciplines : State.reset.clock.sync = .unsynced ∧ park.clock.sync ≠ .unsynced ∧
    park.control.park.stepThreshold = 2000 ∧
    ([36002000, 36001999, 35998001, 35998000].map fun r => park.clock.outcome r 2000) =
      [.stepped, .filtered, .filtered, .slewing] := by decide

theorem test_meets_ClockRuns : park.held = false ∧ park.clock.elapsed < max48 ∧ park.clock.trim = 0 ∧
    ({ park.clock with trim := -500, adjust := 1998 } : Clock).adjustDue = false ∧
    ({ park.clock with trim := -500, adjust := 1999 } : Clock).adjustDue = true ∧
    ({ park.clock with trim := -500, adjust := 1999 } : Clock).tickPark.parkTime = 36000000 ∧
    ({ park.clock with trim := 500, adjust := 1999 } : Clock).tickPark.parkTime = 36000002 ∧
    ({ park.clock with elapsed := 600500 } : Clock).holdoverDue = true := by decide

/-- What ARM checks of a state and its operands, in order. -/
theorem test_meets_ArmCreatesSession : (0 : Byte).toNat = (0 : Outlet).val ∧ (3 : Byte).toNat = (3 : Fin 8).val ∧
    park.control.mode = .operating ∧ park.present 0 = true ∧ park.clock.sync ≠ .unsynced ∧ park.slot 0 = none ∧
    (park.link 0).link = .online ∧ ((park.exchange 0).heldReport.map (·.state)) ≠ some .fault ∧
    (park.plan 3).valid = true ∧ (2 : Byte).toNat ≤ 2 ∧ park.control.park.minimumHold ≤ (500 : BitVec 32).toNat ∧
    (999999 : BitVec 32).toNat ≤ 999999 ∧ park.closures.length ≤ Config.closureRoom := by decide +kernel

/-- The status of an ARM. -/
def armStatus (s : State) (outlet : Byte) (hold : BitVec 32) (plan cls : Byte) : Option Status :=
  (lastSettlement (after (exec (.arm outlet hold plan cls (Vector.replicate 12 0)) s))).map (·.status)

theorem test_meets_ArmRefusedInOrder :
    armStatus idlePark 0 500 3 0 = some .wrongMode ∧ armStatus park 16 500 3 0 = some .outletDown ∧
      armStatus park 1 500 3 0 = some .outletDown ∧
      armStatus { park with clock := Clock.reset } 0 500 3 0 = some .noTime ∧
      armStatus (withSession .parked) 0 500 3 0 = some .outletBusy ∧
      armStatus (park.setLink 0 .reset) 0 500 3 0 = some .outletDown ∧ armStatus park 0 500 8 0 = some .badPlan ∧
      armStatus park 0 500 2 0 = some .badPlan ∧ armStatus park 0 500 3 3 = some .badValue ∧
      armStatus park 0 499 3 2 = some .lowHold ∧ armStatus park 0 1000000 3 2 = some .overLimit ∧
      armStatus park 0 999999 3 2 = some .ok := by decide +kernel

theorem test_meets_HoldToppedUp : NoSlotHolds park 7 ∧ HoldsNumber (withSession .charging) 0 (session .charging) 7 ∧
    HoldsNumber (withSession (.closedWait record 5)) 0 (session (.closedWait record 5)) 7 ∧
    (session .charging).state.open = true ∧ (session (.closedWait record 5)).state.open = false ∧
    999999 < (session .charging).hold + (998000 : BitVec 32).toNat ∧
    (session .charging).hold + (997999 : BitVec 32).toNat ≤ 999999 :=
  ⟨noSlotHolds_park 7, holdsNumber_withSession _, holdsNumber_withSession _, rfl, rfl, by decide, by decide⟩

/-- The headrooms of a TOPUP by 0 and by 1, about the warning of 2 kWh: guard price 52800, hold 180 and 181 (R86, R91). -/
theorem test_meets_HoldToppedUp_headrooms :
    let low : Session := { session .charging with hold := 178 }
    max (bandInForce low.tariff.bands 36000000).2 (bandInForce low.tariff.bands 36060000).2 = 52800 ∧
      ((178 + (0 : BitVec 32).toNat) * 1000 - 73376) * 1000 / 52800 = 1981 ∧
      ((178 + (1 : BitVec 32).toNat) * 1000 - 73376) * 1000 / 52800 = 2000 ∧
      ((178 + (2 : BitVec 32).toNat) * 1000 - 73376) * 1000 / 52800 = 2019 ∧
      park.control.park.fundsWarning = 2000 ∧ ({ low with hold := 75 } : Session).energyHeadroom 36000000 = 30 ∧
      park.control.park.guardEnergy = 50 ∧ ({ low with hold := 73 } : Session).headroom = 0 := by decide

theorem test_meets_StoppingEntered (d : Nat) : ∀ st ∈ [SessionState.armed d, .charging, .parked, .suspended .parked d],
    (withSession st).slot 0 = some (session st) ∧ (session st).state.open = true := by
  intro st h
  refine ⟨slot_withSession st, ?_⟩
  simp only [List.mem_cons, List.not_mem_nil, or_false] at h
  rcases h with rfl | rfl | rfl | rfl <;> rfl

theorem test_meets_SessionsStopped : (session (.stopping .user 5 none)).state.open = false ∧
    (withSession (.armed 1000)).clock.elapsed = 1000 ∧ (withSession (.suspended .charging 1000)).clock.elapsed = 1000 ∧
    HoldsNumber (withSession (.stopping .user 5 none)) 0 (session (.stopping .user 5 none)) 7 :=
  ⟨rfl, rfl, rfl, holdsNumber_withSession _⟩

theorem test_meets_SessionClosed : (withSession (.stopping .user 5 (some 1000))).closures.length < 32 ∧
    ({ withSession (.stopping .user 5 (some 1000)) with closures := List.replicate 32 record } : State).closures.length = 32 ∧
    880000 ≤ max32 := by decide +kernel

theorem test_meets_IdleMinuteAccrued : (session .parked).minutesAccrued < (session .parked).parkedElapsed / 60000 ∧
    ({ session .parked with minutesAccrued := 9 } : Session).minutesAccrued + 1 ≤ (session .parked).tariff.grace ∧
    (session .parked).tariff.grace < (session .parked).minutesAccrued + 1 ∧ (session .parked).idleMinutes < max32 := by
  decide

/-- The park with O0's input low for 5 samples. -/
def lowInput (s : State) : State := s.setMeter 0 { Meter.reset with filter := .lowMeasuring 5 36000000 }

theorem test_meets_PulseAttributed : ((lowInput park).meter 0).filter = .lowMeasuring 5 36000000 ∧
    (park.outletItems 0).pulseMinWidth ≤ 5 ∧ (lowInput park).slot 0 = none ∧
    (session (.armed 5)).state.bills = false ∧
    max32 < ({ session .charging with pulseEnergy := max32 - 9 } : Session).pulseEnergy + (park.outletItems 0).pulseWeight ∧
    ({ session .charging with pulseEnergy := max32 - 10 } : Session).pulseEnergy + (park.outletItems 0).pulseWeight ≤ max32 ∧
    (session .charging).state.bills = true ∧ bandsWellFormed (session .charging).tariff.bands = true ∧
    bandInForce [⟨0, 1⟩, ⟨600, 2⟩, ⟨1439, 3⟩] (1439 * 60000) = (2, 3) ∧
    bandInForce [⟨0, 1⟩, ⟨600, 2⟩, ⟨1439, 3⟩] (1439 * 60000 - 1) = (1, 2) ∧
    bandInForce [⟨0, 1⟩, ⟨600, 2⟩, ⟨1439, 3⟩] (1440 * 60000) = (0, 1) := by decide +kernel

theorem test_pulse_billed :
    let s := after (exec (.pulseTaken 0) (lowInput (withSession .charging)))
    (s.slot 0).map (fun v => (v.pulseEnergy, v.bandSubtotals, v.energyCharge, v.energyRemainder)) =
      some (1240, [1230, 10, 0], 38904, 0) ∧ (s.meter 0).pulses = 1 := by decide +kernel

theorem test_meets_FilterFollowsSamples : park.held = false ∧ (park.meter 0).filter = .start ∧
    ((after (exec (.pulseInputHigh 0) park)).meter 0).filter = .high := by decide

theorem test_meets_RuntCounted : (lowInput park).held = false ∧
    ((lowInput park).meter 0).filter = .lowMeasuring 5 36000000 := by decide

theorem test_meets_FundsGuardEvaluated : park.slot 0 = none ∧ (withSession .charging).slot 0 = some (session .charging) ∧
    (session .charging).headroom = 1926624 ∧ (session .charging).guardPrice 36000000 = 52800 ∧
    (session .charging).energyHeadroom 36000000 = 36489 := by decide

theorem test_meets_ConfirmServed : park.control.park.warmUpTime ≠ 0 ∧
    (∀ st ∈ [ModuleState.switching 0 5 false, .switching 0 5 true, .opening 0 5, .warming 0 5, .active 0, .draining 0 5, .free],
      ((withModule st).module 0).state = st ∧ (withModule st).held = false) := by decide +kernel

theorem test_meets_ModuleFaulted : (park.module 1).state = .outOfService ∧ (park.module 0).state ≠ .outOfService ∧
    ((withModule (.active 0)).module 0).state.assigned = some 0 := by decide

theorem test_meets_ModuleDeadlinesPass : ∀ st ∈ [ModuleState.switching 0 1000 true, .warming 0 1000, .draining 0 1000, .opening 0 1000],
    ((withModule st).module 0).state = st ∧ 1000 ≤ (withModule st).clock.elapsed := by decide +kernel

theorem test_meets_ModuleServiced : 32 ≤ (32 : Byte).toNat ∧ (31 : Byte).toNat = (31 : ModuleNo).val ∧ 1 < (2 : Byte).toNat ∧
    ((withModule (.faulted .routeMismatch)).module 0).indication ≠ .faultOn ∧
    ((park.setModule 0 { park.module 0 with state := .warming 0 5, leaving := true }).module 0).leaving = true ∧
    ((withModule (.warming 0 5)).module 0).leaving = false := by decide

theorem test_meets_CabinetLinkServed :
    let busy := park.setCabinet { CabinetLink.reset with sending := some (.route 1 0), waiting := [.route 2 0, .unroute 3] }
    busy.pool.cabinet.sending ≠ none ∧ (∀ w ∈ busy.pool.cabinet.waiting, w.module ≠ (CabinetMsg.route 4 0).module) ∧
      (CabinetMsg.route 2 0).module = (CabinetMsg.unroute 2).module ∧ park.pool.cabinet.sending = none ∧
      park.pool.cabinet.waiting = [] ∧ cabinetMessageOf 0x83 [32] = none ∧ (requestFrame 0x83 [32]).checkOk = true ∧
      (requestFrame 0x83 [32]).length = 2#8 ∧ (requestFrame 0x83 []).length ≠ 2#8 := by decide +kernel

theorem test_meets_ModulesRequestedAndReleased : (park.module 0).state = .free ∧ OutletSet.has (park.module 0).reach 0 = true ∧
    (∀ m, (park.module m).state = .free → OutletSet.has (park.module m).reach 1 = false) ∧ 0 < park.rating ∧
    (2 * park.rating < 433 + park.rating ∧ 433 ≤ 2 * park.rating) ∧
    ((withModule (.active 0)).module 0).state = .active 0 ∧
    (∀ k, 0 < k → ((withModule (.active 0)).module k).state ≠ .active 0) ∧ (withSession .charging).holding 0 = 0 := by
  decide +kernel

theorem test_meets_CapTargetSetAndLapses :
    ({ park with dispatcher := { park.dispatcher with capTarget := some ⟨2500, 1000⟩ } } : State).dispatcher.capTarget =
      some ⟨2500, 1000⟩ ∧ park.clock.elapsed = 1000 := by decide

theorem test_meets_AvailablePowerFormed : park.targetInForce = 2500 ∧ park.dispatcher.effectiveCap < 2500 ∧
    park.dispatch.dispatcher.effectiveCap = 500 ∧ park.dispatch.dispatcher.available = 400 ∧
    (withSession .charging).fundsStage.slot 0 = some (session .charging) ∧ park.fundsStage.isCharging 0 = false ∧
    park.present 0 = true ∧ park.present 1 = false ∧
    (session .charging).fundsLimit 36000000 50 500 = 40000 := by decide +kernel

/-- R124, R125: claims in ascending outlet number, their service order, and admission at its bound. -/
theorem test_meets_AdmissionWalksTheOrder :
    let claims : List Claim := [⟨0, 1, 3, 500, 100⟩, ⟨1, 2, 4, 900, 100⟩, ⟨2, 1, 3, 500, 100⟩, ⟨3, 0, 1, 500, 201⟩]
    let order : List Claim := [⟨1, 2, 4, 900, 100⟩, ⟨0, 1, 3, 500, 100⟩, ⟨2, 1, 3, 500, 100⟩, ⟨3, 0, 1, 500, 201⟩]
    sortBy Claim.before claims = order ∧ admitClaims 500 0 order = order.take 3 ∧ admitClaims 501 0 order = order ∧
      ((withSession .charging).dispatch.serviceOrder.map fun c => (c.outlet, c.cls)) = [(0, 1)] := by decide +kernel

theorem test_meets_PowerSharedWithinRooms :
    let claims : List Claim := [⟨0, 0, 2, 1500, 100⟩, ⟨7, 0, 3, 2000, 100⟩, ⟨9, 0, 4, 600, 100⟩]
    (claims.map (·.outlet)).Nodup ∧ (∀ c ∈ claims, c.cls = 0 ∧ c.minimum ≤ c.ceiling) := by decide

/-- R126: the classes share in turn; what class 2 leaves goes to class 1, and the rest to class 0. -/
theorem test_classes_share_in_turn :
    let claims : List Claim := [⟨1, 2, 4, 900, 100⟩, ⟨0, 1, 3, 500, 100⟩, ⟨2, 0, 1, 500, 100⟩]
    (shareClass claims 2 1000).2 = 200 ∧ (shareClass claims 1 200).2 = 0 ∧ shares claims 1000 = [(1, 800), (0, 200), (2, 0)] := by
  decide

theorem test_meets_ReportJudged : park.held = false ∧ park.line.sending = none ∧ park.line.rx = .waiting ∧
    PedestalState.ofCode 5 = some .fault ∧ PedestalState.ofCode 6 = none ∧ park.present 0 = true ∧ park.present 1 = false ∧
    reportCheckOk (report 4711 5 1 900 395 7).toList = true ∧
    reportCheckOk ((report 4711 5 1 900 395 7).set 13 0).toList = false := by decide +kernel

theorem test_meets_FramesDiscarded : park.control.mode = .operating ∧ park.line.rx = .waiting ∧
    (park.setRx (.assembling 15)).line.rx = .assembling (BitVec.ofNat 8 (15 : Outlet).val) ∧
    16 ≤ (16 : Byte).toNat ∧ (park.setRx .awaitingHigh).line.rx = .awaitingHigh ∧
    (idlePark.setRx (.assembling 15)).line.sending = none ∧ (idlePark.setRx (.assembling 15)).control.mode = .maintenance ∧
    (idlePark.setRx (.assembling 16)).line.rx ≠ .awaitingHigh := by decide

theorem test_meets_TakesJudged :
    let fresh := withLatest ⟨4711, .charging, false, 900, 395, 881300⟩ (withSession .charging)
    let stale := withLatest ⟨4710, .charging, false, 900, 395, 881300⟩ (withSession .charging)
    fresh.present 0 = true ∧ (fresh.exchange 0).latest = some 0 ∧
      (fresh.exchange 0).freshReport fresh.line.cycleNumber = some ⟨4711, .charging, false, 900, 395, 881300⟩ ∧
      (stale.exchange 0).freshReport stale.line.cycleNumber = none ∧ stale.control.park.missLimit = 4 ∧
      (stale.setLink 0 { stale.link 0 with miss := 3 }).becomesUnreachable 0 = true ∧
      (stale.setLink 0 { stale.link 0 with miss := 2 }).becomesUnreachable 0 = false := by decide +kernel

theorem test_link_lost_suspends :
    let stale := withLatest ⟨4710, .charging, false, 900, 395, 881300⟩ (withSession .charging)
    let s := (stale.setLink 0 { stale.link 0 with miss := 3 }).take 0
    (s.slot 0).map (·.state) = some (.suspended .charging 61000) ∧ (s.link 0).link = .unreachable ∧
      s.notices.site.unreachable = 1 ∧ s.notices.settlement.suspended = 1 := by decide +kernel

theorem test_meets_ReportMovesSession : ∀ st ∈ [SessionState.armed 5, .charging, .parked, .suspended .charging 5,
    .suspended .parked 5, .stopping .user 5 none, .closedWait record 5], (withSession st).slot 0 = some (session st) :=
  fun st _ => slot_withSession st

/-- R75, R76: a fresh take of a session that stays in CHARGING, at the limit over a published setpoint of 380 and above it. -/
theorem test_fresh_takes_count_overdraw :
    let s := (withSession .charging).setLink 0 { (withSession .charging).link 0 with published := 380 }
    let t := s.freshTake 0 ⟨4711, .charging, false, 900, 401, 881300⟩
    let u := (t.freshTake 0 ⟨4711, .charging, false, 900, 401, 881310⟩).freshTake 0 ⟨4711, .charging, false, 900, 401, 881320⟩
    ((s.freshTake 0 ⟨4711, .charging, false, 900, 400, 881300⟩).meter 0).overdraw = 0 ∧ (t.meter 0).overdraw = 1 ∧
      (t.slot 0).bind (fun v => v.charge.map (·.lastMeter)) = some 881300 ∧ (u.meter 0).overdraw = 3 ∧
      (u.slot 0).map (·.state) = some (.stopping .overdraw 36000000 (some 3000)) ∧ u.notices.site.overdraw = 1 := by
  decide +kernel

theorem test_meets_CycleExpiryRuns : park.held = false ∧ park.control.mode = .operating ∧
    park.control.cycleTimer = some 1000 ∧ 1000 ≤ park.clock.elapsed ∧ park.line.rx = .waiting ∧
    park.line.sending = none ∧ park.line.replyWindow = none := by decide

theorem test_meets_OpeningBuilt :
    let pends : State := { park with line := { park.line with openingPending := true } }
    let s := after (exec .openingBegin pends)
    pends.line.openingPending = true ∧ s.line.sending.isSome = true ∧
      (after (exec .openingEnd s)).line.replyWindow = some 1128 ∧
      ({ s with line := { s.line with sending := none, replyWindow := some 1000 } } : State).clock.elapsed = 1000 := by
  decide +kernel

/-- R112: the command of every state of a session, and of an outlet with none. -/
theorem test_commands :
    ([SessionState.armed 5, .charging, .parked, .suspended .charging 5, .stopping .user 5 none, .closedWait record 5].map
        fun st => (withSession st).command 0) = [.wait, .wait, .wait, .wait, .stop, .idle] ∧
      ((withSession .charging).setRecord 0 { DispatchRecord.starting with admission := .admitted }).command 0 = .run ∧
      park.command 0 = .idle ∧ park.command 1 = .idle := by decide +kernel

theorem test_meets_FramesDecodeToTheirCommands :
    encodeRequest (.writePlan 7 1 2 3 1 (List.replicate 184 0)) =
        some (.settlement, 0x16, 7 :: [0, 0, 0, 1, 0, 0, 0, 2, 3, 1] ++ List.replicate 184 0) ∧
      encodeCabinet (.confirm 31 none) = some (0x81, [31, 0xFF]) := by decide +kernel

/-- The invariants of Safety.lean hold of the park with a session in CHARGING, and its steps answer next. -/
theorem test_meets_invariants : Inv (withSession .charging) ∧ ∃ t, step (withSession .charging) = .next t := by
  refine ⟨⟨⟨?_, ?_, ?_⟩, ?_, ⟨?_, ?_⟩, ?_, ⟨?_, ?_⟩, ⟨?_, ?_, ?_⟩, ?_, ?_, ⟨?_, ?_, ?_⟩, ?_, ?_⟩, _, rfl⟩
  · intro h; exact absurd h (by decide)
  · intro _; decide +kernel
  · have : ∀ o, (withSession .charging).present o = false → (withSession .charging).slot o = none ∧
        (withSession .charging).record o = .starting ∧ ((withSession .charging).exchange o).latest = none ∧
        ((withSession .charging).exchange o).held = none ∧ ((withSession .charging).link o).link = .unknown ∧
        ((withSession .charging).link o).miss = 0 := by decide +kernel
    exact this
  · have : ∀ o, (withSession .charging).exchange o = .reset := by decide +kernel
    intro o
    rw [this o]
    unfold RolesDistinct
    decide
  · have : ∀ m, ((withSession .charging).module m).state.assigned = none ∧ ((withSession .charging).module m).leaving = false ∧
        ((withSession .charging).module m).indication = .none := by decide +kernel
    intro m
    refine ⟨fun o h => ?_, fun h => ?_, fun h => ?_⟩
    · rw [(this m).1] at h; cases h
    · rw [(this m).2.1] at h; cases h
    · rw [(this m).2.2] at h; cases h
  · have : ∀ o, (withSession .charging).holding o ≤ ((withSession .charging).outletItems o).moduleLimit := by decide +kernel
    exact this
  · unfold CabinetInv; decide
  · have : ∀ m o, servingOutlet ((withSession .charging).module m).state ≠ some o := by decide +kernel
    intro m o h
    exact absurd h (this m o)
  · intro o ses r t d h hs
    by_cases ho : o = 0
    · subst ho; rw [slot_withSession] at h; cases h; cases hs
    · rw [slot_withSession_other _ ho] at h; cases h
  · have : ∀ n, bandsWellFormed ((withSession .charging).plan n).bands = true := by decide +kernel
    exact this
  · intro o ses h
    by_cases ho : o = 0
    · subst ho; rw [slot_withSession] at h; cases h
      refine ⟨?_, fun r t e => by cases e⟩
      unfold SessionPriced
      decide +kernel
    · rw [slot_withSession_other _ ho] at h; cases h
  · intro r h; cases h
  · refine ⟨by decide +kernel, by decide +kernel, by decide +kernel, fun o ses r t h hs => ?_⟩
    by_cases ho : o = 0
    · subst ho; rw [slot_withSession] at h; cases h; cases hs
    · rw [slot_withSession_other _ ho] at h; cases h
  · unfold ClockInv; decide
  · have : ∀ o, (withSession .charging).record o = .starting := by decide +kernel
    intro o
    rw [this o]
    unfold RecordGranted
    decide
  · decide +kernel
  · decide
  · unfold RoomInv; decide +kernel
  · intro o ses r t h hs
    by_cases ho : o = 0
    · subst ho; rw [slot_withSession] at h; cases h; cases hs
    · rw [slot_withSession_other _ ho] at h; cases h

end Sys2Proof.Tests
end

section
/-! The tariff store (02_park_clock_and_tariff_plans.md, R32 to R36): what the owner of INVALIDATE_PLAN answers, and which commands
leave every plan as it is. -/

namespace Sys2Proof.Proofs.TariffStore

open Sys2Proof.Machine Sys2Proof.Safety Sys2Proof.Laws

/-! ### The owner of INVALIDATE_PLAN, R35 -/

theorem answerInvalidatePlan_of_eight_le (s : State) {b : Byte} (h : 8 ≤ b.toNat) :
    s.answerInvalidatePlan b = s.answer .badValue := by
  simp [State.answerInvalidatePlan, planOf_eq_none h]

theorem answerInvalidatePlan_of_invalid {s : State} {b : Byte} {n : Fin 8} (hb : b.toNat = n.val)
    (h : (s.plan n).valid = false) : s.answerInvalidatePlan b = s.answer .already := by
  simp [State.answerInvalidatePlan, planOf_eq_some hb, h]

theorem answerInvalidatePlan_of_valid {s : State} {b : Byte} {n : Fin 8} (hb : b.toNat = n.val)
    (h : (s.plan n).valid = true) :
    s.answerInvalidatePlan b = (s.setPlan n { s.plan n with valid := false }).answer .ok := by
  simp [State.answerInvalidatePlan, planOf_eq_some hb, h]

/-- What INVALIDATE_PLAN does on a listening settlement port, read off its owner's answer. -/
theorem exec_invalidatePlan {s u : State} {b : Byte} {status : Status} (l : Listening s .settlement)
    (h : s.answerInvalidatePlan b = u.answer status) :
    exec (.invalidatePlan b) s = .next (u.respond .settlement 0x18 status []) := by
  rw [exec_listening (c := .invalidatePlan b) rfl l, h]
  rfl

/-! ### The commands that leave every plan as it is -/

/-- The commands that are neither a WRITE_PLAN nor an INVALIDATE_PLAN. -/
def LeavesPlans (c : Instr) : Prop :=
  (∀ b, c ≠ .invalidatePlan b) ∧ ∀ b fee idle grace count bands, c ≠ .writePlan b fee idle grace count bands

theorem plans_owner {c : Instr} {p : PortId} {code : Byte} {owner : State → Answer} (hc : LeavesPlans c)
    (h : requestParts c = some (p, code, owner)) (s : State) : (owner s).state.plans = s.plans := by
  cases c
  case invalidatePlan b => exact absurd rfl (hc.1 b)
  case writePlan b fee idle grace count bands => exact absurd rfl (hc.2 b fee idle grace count bands)
  all_goals cases h <;> simp

theorem plans_serve {owner : State → Answer} {s : State} (h : (owner s).state.plans = s.plans) (p : PortId) (code : Byte) :
    (serve s p code owner).plans = s.plans := by
  unfold serve
  split
  · exact plans_overrun s p
  · rw [plans_respond, h]

theorem plans_eventEffect (c : Instr) (s : State) : (eventEffect c s).plans = s.plans := by
  cases c <;> simp [eventEffect, apply_ite State.plans]

theorem plans_effect {c : Instr} (hc : LeavesPlans c) (s : State) : (effect c s).plans = s.plans := by
  unfold effect
  split
  next p code owner h => exact plans_serve (plans_owner hc h s) p code
  next => exact plans_eventEffect c s

theorem plans_exec {c : Instr} {s t : State} (hr : c ≠ .reset) (hc : LeavesPlans c) (h : exec c s = .next t) :
    t.plans = s.plans := by
  by_cases hrel : c = .resetRelease
  · subst hrel
    rw [exec_resetRelease] at h
    cases h
    split <;> rfl
  · rw [exec_effect c s hr hrel] at h
    cases h
    split
    · rfl
    · exact plans_effect hc s

/-- Settles O14: each answer of INVALIDATE_PLAN from its owner's case, and the frame from what a command's effect does to the
plans: an owner or an event that is not a plan's writer leaves them, and so do the port and RESET_RELEASE. -/
theorem planInvalidated : Obligations.PlanInvalidated := by
  unfold Obligations.PlanInvalidated
  refine ⟨fun s b l => ⟨?refused, fun n hb => ⟨?already, ?withdrawn⟩⟩, ?frame⟩
  case refused => exact fun h => exec_invalidatePlan l (answerInvalidatePlan_of_eight_le s h)
  case already => exact fun h => exec_invalidatePlan l (answerInvalidatePlan_of_invalid hb h)
  case withdrawn => exact fun h => exec_invalidatePlan l (answerInvalidatePlan_of_valid hb h)
  case frame => exact fun c s t hr hi hw h => plans_exec hr ⟨hi, hw⟩ h

end Sys2Proof.Proofs.TariffStore
end

section
/-! Energy pulses (04_energy_pulses_and_pedestal_measurements.md, R64 to R68): what a high sample does to a low level that is not
yet confirmed. -/

namespace Sys2Proof.Proofs.EnergyPulses

open Sys2Proof.Machine Sys2Proof.Laws

/-- R67: of a filter in LOW_MEASURING a high sample writes the outlet's meter only, and of the meter the filter and the runt
counter. -/
theorem endRunt_of_lowMeasuring {s : State} {o : Outlet} {n stamp : Nat}
    (measuring : (s.meter o).filter = .lowMeasuring n stamp) :
    s.endRunt o = s.setMeter o { s.meter o with filter := .high, runts := satAdd (s.meter o).runts 1 } := by
  simp only [State.endRunt, measuring]

/-- Settles O34: a part that is not held serves RUNT by its event's effect, which in LOW_MEASURING is one write of the outlet's
meter. -/
theorem runtCounted : Obligations.RuntCounted := by
  unfold Obligations.RuntCounted
  intro s o n stamp held measuring
  have served : exec (.runt o) s = .next (s.endRunt o) := exec_event s rfl nofun nofun held
  rw [served, endRunt_of_lowMeasuring measuring]
  rfl

end Sys2Proof.Proofs.EnergyPulses
end

section
/-! The closure queue (09_closure_queue_and_notices.md, R158): what the owner of PEEK_CLOSURE answers for an empty queue and for
one with a record at its head. -/

namespace Sys2Proof.Proofs.ClosureQueue

open Sys2Proof.Machine Sys2Proof.Safety Sys2Proof.Laws

/-! ### The owner of PEEK_CLOSURE, R158 -/

/-- R168: a count is sent in one byte. -/
theorem toBytes_one (v : Nat) : toBytes 1 v = [BitVec.ofNat 8 v] := by
  simp [toBytes]

theorem answerPeek_of_nil {s : State} (empty : s.closures = []) : s.answerPeek = s.answer .empty := by
  simp only [State.answerPeek, empty]

/-- The payload in the layout of R173: the count is one byte, and the record's bytes are those of the spec's table. -/
theorem answerPeek_of_cons {s : State} {r : ClosureRecord} {rest : List ClosureRecord} (head : s.closures = r :: rest) :
    s.answerPeek = s.answer .ok (BitVec.ofNat 8 s.closures.length :: recordLayout r) := by
  have asBuilt : s.answerPeek = s.answer .ok (toBytes 1 s.closures.length ++ r.bytes) := by
    simp only [State.answerPeek, head]
  rw [asBuilt, toBytes_one, bytes_record, List.singleton_append]

/-- An owner's answer that leaves the state as it is: of PEEK_CLOSURE only the response is seen. -/
theorem exec_peekClosure {s : State} {status : Status} {payload : List Byte} (l : Listening s .settlement)
    (h : s.answerPeek = s.answer status payload) :
    exec .peekClosure s = .next (s.respond .settlement 0x14 status payload) := by
  rw [exec_listening (c := .peekClosure) rfl l, h]
  rfl

/-- Settles O16: the queue is empty or has a record at its head, and in each case the owner answers from the state as it is. -/
theorem closurePeeked : Obligations.ClosurePeeked := by
  unfold Obligations.ClosurePeeked
  refine fun s l => ⟨?empty, fun r rest => ?head⟩
  case empty => exact fun h => exec_peekClosure l (answerPeek_of_nil h)
  case head => exact fun h => exec_peekClosure l (answerPeek_of_cons h)

end Sys2Proof.Proofs.ClosureQueue
end

section
/-! Which commands write which block of the state: for each block the commands that can write it, and that the effect of every other
command leaves it as it is. -/

namespace Sys2Proof.Proofs.Footprint

open Sys2Proof.Machine Sys2Proof.Laws

/-! ### From owners and events to effects -/

/-- A field that the ports do not hold is left by a command's effect when the command's owner, or its event, leaves it. -/
theorem field_effect {β : Type} (g : State → β) (ports : ∀ s q, g { s with ports := q } = g s) (c : Instr) (s : State)
    (owner : ∀ p code owner, requestParts c = some (p, code, owner) → g (owner s).state = g s)
    (event : requestParts c = none → g (eventEffect c s) = g s) : g (effect c s) = g s := by
  unfold effect
  split
  next p code own h =>
    unfold serve
    split
    · cases p <;> exact ports _ _
    · rw [← owner p code own h]
      cases p <;> exact ports _ _
  next h => exact event h

/-- The effect of a request, once its parts are known. -/
theorem effect_request {c : Instr} {p : PortId} {code : Byte} {owner : State → Answer}
    (h : requestParts c = some (p, code, owner)) (s : State) : effect c s = serve s p code owner := by
  unfold effect; rw [h]

/-- The effect of an event. -/
theorem effect_event {c : Instr} (h : requestParts c = none) (s : State) : effect c s = eventEffect c s := by
  unfold effect; rw [h]

/-- A property that does not look at the ports is kept by a request when its owner keeps it. -/
theorem keeps_request {I : State → Prop} (ports : ∀ s q, I s → I { s with ports := q }) {c : Instr} {p : PortId} {code : Byte}
    {owner : State → Answer} (h : requestParts c = some (p, code, owner)) {s : State} (hs : I s) (ho : I (owner s).state) :
    I (effect c s) := by
  rw [effect_request h]
  unfold serve
  split
  · cases p <;> exact ports _ _ hs
  · cases p <;> exact ports _ _ ho

/-! ### The writers of each block -/

def writesControl : Instr → Bool
  | .configWrite _ _ _ | .startPark | .stopPark | .cycleExpiry _ => true
  | _ => false

def writesClock : Instr → Bool
  | .timeRef _ | .elapsedMillisecond | .trimAdjustment | .holdoverDeadline => true
  | _ => false

def writesPlans : Instr → Bool
  | .writePlan _ _ _ _ _ _ | .invalidatePlan _ => true
  | _ => false

def writesSessions : Instr → Bool
  | .arm _ _ _ _ _ | .topup _ _ | .stop _ | .releaseClosure _ | .timeRef _ | .startPark | .confirm _ _ | .faultOn _
  | .cycleExpiry _ | .pulseTaken _ | .armDeadline _ | .suspendDeadline _ | .settleDeadline _ | .idleMinuteAccrual _
  | .elapsedMillisecond | .trimAdjustment | .holdoverDeadline | .switchTimeout _ | .openingTimeout _ => true
  | _ => false

def writesMeters : Instr → Bool
  | .arm _ _ _ _ _ | .readCountersClear _ | .readCounters _ _ | .cycleExpiry _ | .pulseTaken _ | .runt _ | .pulseLeadingEdge _ | .pulseInputHigh _
  | .elapsedMillisecond | .trimAdjustment => true
  | _ => false

def writesLine : Instr → Bool
  | .startPark | .stopPark | .readCountersClear _ | .readCounters _ _ | .reportFrame _ _ _ | .gapTimeOut _ _ | .rejectedCharacter _
  | .unaddressedFrame _ _ | .unaddressedCharacter | .openingBegin | .openingEnd | .replyWindowClose | .cycleExpiry _
  | .reportDiscard _ _ _ | .lineSeenHigh => true
  | _ => false

def writesExchanges : Instr → Bool
  | .startPark | .stopPark | .reportFrame _ _ _ | .gapTimeOut _ _ | .rejectedCharacter _ | .reportDiscard _ _ _
  | .cycleExpiry _ => true
  | _ => false

def writesDispatcher : Instr → Bool
  | .startPark | .stopPark | .setCap _ _ | .targetExpiry | .cycleExpiry _ => true
  | _ => false

def writesPool : Instr → Bool
  | .topup _ _ | .stop _ | .startPark | .moduleServiceOut _ _ | .moduleServiceIn _ | .moduleClear _
  | .readCountersClear _ | .readCounters _ _ | .confirm _ _ | .faultOn _ | .faultOff _ | .cabinetFrameError _ | .unusableMessage _
  | .cabinetGapTimeout _ | .cabinetMessageSent | .cycleExpiry _ | .pulseTaken _ | .armDeadline _ | .suspendDeadline _
  | .idleMinuteAccrual _ | .switchTimeout _ | .warmUpDeadline _ | .drainDeadline _ | .openingTimeout _ => true
  | _ => false

def writesClosures : Instr → Bool
  | .releaseClosure _ | .settleDeadline _ => true
  | _ => false

variable {c : Instr} (s : State)

theorem control_effect (h : writesControl c = false) : (effect c s).control = s.control := by
  refine field_effect State.control (fun _ _ => rfl) c s (fun p code owner hc => ?_) fun _ => ?_
  · cases c <;> cases h <;> cases hc <;> simp
  · cases c <;> cases h <;> simp [eventEffect, apply_ite State.control]

theorem clock_effect (h : writesClock c = false) : (effect c s).clock = s.clock := by
  refine field_effect State.clock (fun _ _ => rfl) c s (fun p code owner hc => ?_) fun _ => ?_
  · cases c <;> cases h <;> cases hc <;> simp
  · cases c <;> cases h <;> simp [eventEffect, apply_ite State.clock]

theorem plans_effect (h : writesPlans c = false) : (effect c s).plans = s.plans := by
  refine field_effect State.plans (fun _ _ => rfl) c s (fun p code owner hc => ?_) fun _ => ?_
  · cases c <;> cases h <;> cases hc <;> simp
  · cases c <;> cases h <;> simp [eventEffect, apply_ite State.plans]

theorem sessions_effect (h : writesSessions c = false) : (effect c s).sessions = s.sessions := by
  refine field_effect State.sessions (fun _ _ => rfl) c s (fun p code owner hc => ?_) fun _ => ?_
  · cases c <;> cases h <;> cases hc <;> simp
  · cases c <;> cases h <;> simp [eventEffect, apply_ite State.sessions]

theorem meters_effect (h : writesMeters c = false) : (effect c s).meters = s.meters := by
  refine field_effect State.meters (fun _ _ => rfl) c s (fun p code owner hc => ?_) fun _ => ?_
  · cases c <;> cases h <;> cases hc <;> simp
  · cases c <;> cases h <;> simp [eventEffect, apply_ite State.meters]

theorem line_effect (h : writesLine c = false) : (effect c s).line = s.line := by
  refine field_effect State.line (fun _ _ => rfl) c s (fun p code owner hc => ?_) fun _ => ?_
  · cases c <;> cases h <;> cases hc <;> simp
  · cases c <;> cases h <;> simp [eventEffect, apply_ite State.line]

theorem exchanges_effect (h : writesExchanges c = false) : (effect c s).exchanges = s.exchanges := by
  refine field_effect State.exchanges (fun _ _ => rfl) c s (fun p code owner hc => ?_) fun _ => ?_
  · cases c <;> cases h <;> cases hc <;> simp
  · cases c <;> cases h <;> simp [eventEffect, apply_ite State.exchanges]

theorem dispatcher_effect (h : writesDispatcher c = false) : (effect c s).dispatcher = s.dispatcher := by
  refine field_effect State.dispatcher (fun _ _ => rfl) c s (fun p code owner hc => ?_) fun _ => ?_
  · cases c <;> cases h <;> cases hc <;> simp
  · cases c <;> cases h <;> simp [eventEffect, apply_ite State.dispatcher]

theorem pool_effect (h : writesPool c = false) : (effect c s).pool = s.pool := by
  refine field_effect State.pool (fun _ _ => rfl) c s (fun p code owner hc => ?_) fun _ => ?_
  · cases c <;> cases h <;> cases hc <;> simp
  · cases c <;> cases h <;> simp [eventEffect, apply_ite State.pool]

theorem closures_effect (h : writesClosures c = false) : (effect c s).closures = s.closures := by
  refine field_effect State.closures (fun _ _ => rfl) c s (fun p code owner hc => ?_) fun _ => ?_
  · cases c <;> cases h <;> cases hc <;> simp
  · cases c <;> cases h <;> simp [eventEffect, apply_ite State.closures]

end Sys2Proof.Proofs.Footprint
end

section
/-! The park clock (02_park_clock_and_tariff_plans.md, R19 to R28): its bounds through a millisecond, a reference, holdover and reset, and
park time, which does not go back once the clock has been set. -/

namespace Sys2Proof.Proofs.ParkClock

open Sys2Proof.Machine Sys2Proof.Safety Sys2Proof.Laws Sys2Proof.Proofs.Footprint

/-! ### The invariant of the clock alone -/

/-- R20, R21: the trim in its range, the adjustment counter below its interval, and at 0 where nothing is to adjust. -/
def TrimOk (c : Clock) : Prop :=
  -500 ≤ c.trim ∧ c.trim ≤ 500 ∧ (c.trim = 0 → c.adjust = 0) ∧ (c.trim ≠ 0 → c.adjust < adjustInterval c.trim)

/-- `ClockInv`, read off the clock. -/
def ClockOk (c : Clock) : Prop :=
  c.elapsed ≤ max48 ∧ c.parkTime ≤ max48 ∧ TrimOk c ∧ (c.slewing = true → c.trim = -500) ∧
    (c.sync = .synced ↔ c.holdoverDeadline.isSome = true)

theorem clockInv_iff (s : State) : ClockInv s ↔ ClockOk s.clock := by
  simp only [ClockInv, ClockOk, TrimOk, and_assoc]

theorem clockInv_congr {s t : State} (h : t.clock = s.clock) (hs : ClockInv s) : ClockInv t := by
  rw [clockInv_iff] at hs ⊢
  rwa [h]

/-- R21: a trim within its range that is not 0 leaves room for a counter at 0. -/
theorem adjustInterval_pos {t : Int} (h : t ≠ 0) (lo : -500 ≤ t) (hi : t ≤ 500) : 0 < adjustInterval t :=
  Nat.div_pos (by omega) (by omega)

/-! ### A millisecond, R19 to R21 -/

theorem elapsed_tickElapsed_le (c : Clock) : c.tickElapsed.elapsed ≤ max48 := by
  have width : ∀ v : BitVec 48, v.toNat ≤ max48 := fun v => by unfold max48; omega
  unfold Clock.tickElapsed
  split
  next h => exact h
  next => exact width _

theorem clockOk_tickElapsed {c : Clock} (h : ClockOk c) : ClockOk c.tickElapsed := by
  obtain ⟨_, rest⟩ := h
  refine ⟨elapsed_tickElapsed_le c, ?_⟩
  unfold Clock.tickElapsed
  split <;> exact rest

theorem advancePark_le (c : Clock) (n : Nat) : c.advancePark n ≤ max48 := Nat.min_le_right _ _

theorem le_advancePark {c : Clock} (h : c.parkTime ≤ max48) (n : Nat) : c.parkTime ≤ c.advancePark n := by
  simp only [Clock.advancePark]; omega

theorem clockOk_tickPark {c : Clock} (h : ClockOk c) : ClockOk c.tickPark := by
  obtain ⟨he, hp, ⟨lo, hi, hz, hn⟩, hs, hd⟩ := h
  by_cases due : c.adjustDue = true
  · have trim : c.trim ≠ 0 := by
      simp only [Clock.adjustDue, Bool.and_eq_true, bne_iff_ne] at due
      exact due.1
    simp only [Clock.tickPark, due, if_true]
    exact ⟨he, advancePark_le _ _, ⟨lo, hi, fun _ => rfl, fun _ => adjustInterval_pos trim lo hi⟩, hs, hd⟩
  · simp only [Clock.tickPark, due]
    refine ⟨he, advancePark_le _ _, ⟨lo, hi, fun h => if_pos h, fun h => ?_⟩, hs, hd⟩
    simp only [Clock.adjustDue, Bool.and_eq_true, bne_iff_ne, decide_eq_true_eq, not_and, not_le] at due
    have below := due h
    have trim : c.trim ≠ 0 := h
    simpa [trim] using below

theorem parkTime_le_tick {c : Clock} (h : ClockOk c) : c.parkTime ≤ c.tickElapsed.tickPark.parkTime := by
  have park : c.tickElapsed.parkTime = c.parkTime := by unfold Clock.tickElapsed; split <;> rfl
  have bound := (clockOk_tickElapsed h).2.1
  rw [← park]
  unfold Clock.tickPark
  split <;> exact le_advancePark bound _

/-! ### A reference, R24 to R28 -/

theorem trimOk_setTrim {c : Clock} {t : Int} (h : TrimOk c) (lo : -500 ≤ t) (hi : t ≤ 500) : TrimOk (c.setTrim t) := by
  obtain ⟨_, _, hz, hn⟩ := h
  by_cases e : t = c.trim
  · subst e
    simpa [Clock.setTrim, TrimOk] using ⟨lo, hi, hz, hn⟩
  · simp only [Clock.setTrim, TrimOk, if_neg e]
    exact ⟨lo, hi, fun _ => trivial, fun h => adjustInterval_pos h lo hi⟩

/-- What a reference leaves of a clock within its bounds: the trim in order, -500 while slewing, park time within 48 bits. -/
theorem discipline_ok {c : Clock} {ref : Nat} (h : ClockOk c) (href : ref ≤ max48) (threshold depth : Nat) :
    TrimOk (c.discipline ref threshold depth) ∧
      ((c.discipline ref threshold depth).slewing = true → (c.discipline ref threshold depth).trim = -500) ∧
      (c.discipline ref threshold depth).parkTime ≤ max48 ∧ (c.discipline ref threshold depth).elapsed = c.elapsed := by
  obtain ⟨_, hp, ht, _, _⟩ := h
  unfold Clock.discipline
  split
  case h_1 => exact ⟨trimOk_setTrim (t := 0) ht (by decide) (by decide), nofun, href, rfl⟩
  case h_2 =>
    by_cases slewing : c.slewing = true
    · simp only [slewing, if_true]
      exact ⟨trimOk_setTrim (t := 0) ht (by decide) (by decide), nofun, href, rfl⟩
    · simp only [slewing]
      exact ⟨ht, nofun, href, rfl⟩
  case h_3 => exact ⟨trimOk_setTrim (t := -500) ht (by decide) (by decide), fun _ => rfl, hp, rfl⟩
  case h_4 =>
    have range : ∀ t : Int, -500 ≤ clampTrim t ∧ clampTrim t ≤ 500 := fun t => by unfold clampTrim; omega
    exact ⟨trimOk_setTrim ht (range _).1 (range _).2, nofun, hp, rfl⟩

theorem clockOk_reference {c : Clock} {ref : Nat} (h : ClockOk c) (href : ref ≤ max48) (threshold depth holdover : Nat) :
    ClockOk (c.reference ref threshold depth holdover) := by
  obtain ⟨trim, slewing, park, elapsed⟩ := discipline_ok h href threshold depth
  exact ⟨by simpa [Clock.reference, elapsed] using h.1, park, trim, slewing, by simp [Clock.reference]⟩

/-- R25 to R27: of a clock that has been set, only a step writes park time, and it steps forward. -/
theorem parkTime_le_reference {c : Clock} (set : c.sync ≠ .unsynced) (ref threshold depth holdover : Nat) :
    c.parkTime ≤ (c.reference ref threshold depth holdover).parkTime := by
  simp only [Clock.reference]
  unfold Clock.discipline
  split
  case h_1 outcome =>
    simp only [Clock.outcome, if_neg set] at outcome
    split at outcome
    · cases outcome
    · split at outcome <;> cases outcome
  case h_2 outcome =>
    have forward : (threshold : Int) ≤ c.difference ref := by
      by_contra back
      simp only [Clock.outcome, if_neg set, if_neg back] at outcome
      split at outcome <;> cases outcome
    have ahead : c.parkTime ≤ ref := by simp only [Clock.difference] at forward; omega
    exact ahead
  case h_3 => exact le_rfl
  case h_4 => exact le_rfl

/-! ### Every command -/

@[simp] theorem clock_flagLive (s : State) (f : ClockFlag) : (s.flagLive f).clock = s.clock := rfl

@[simp] theorem clock_answerTimeRef (s : State) (ref : Nat) : (s.answerTimeRef ref).state.clock =
    s.clock.reference ref s.control.park.stepThreshold s.control.park.filterDepth s.control.park.holdoverTime := by
  unfold State.answerTimeRef
  simp only [State.answer]
  cases s.clock.outcome ref s.control.park.stepThreshold <;> rfl

/-- What a command does to the clock: nothing, a reference, a millisecond or the end of SYNCED. -/
theorem clock_effect_cases (c : Instr) (s : State) :
    (effect c s).clock = s.clock ∨
      (∃ ref : BitVec 48, (effect c s).clock = s.clock.reference ref.toNat s.control.park.stepThreshold
        s.control.park.filterDepth s.control.park.holdoverTime) ∨
      (effect c s).clock = s.clock.tickElapsed.tickPark ∨
      (effect c s).clock = { s.clock with sync := .holdover, holdoverDeadline := none } := by
  cases c with
  | timeRef ref =>
    simp only [effect, requestParts, serve]
    split
    · exact .inl (clock_overrun s .site)
    · exact .inr (.inl ⟨ref, by rw [clock_respond, clock_answerTimeRef]⟩)
  | elapsedMillisecond => exact .inr (.inr (.inl rfl))
  | trimAdjustment =>
    simp only [effect, requestParts, eventEffect]
    split
    · exact .inr (.inr (.inl rfl))
    · exact .inl rfl
  | holdoverDeadline =>
    simp only [effect, requestParts, eventEffect]
    split
    · exact .inr (.inr (.inr rfl))
    · exact .inl rfl
  | _ => exact .inl (clock_effect s rfl)

theorem clockInv_effect (c : Instr) (s : State) (h : ClockInv s) : ClockInv (effect c s) := by
  rw [clockInv_iff] at h ⊢
  rcases clock_effect_cases c s with e | ⟨ref, e⟩ | e | e <;> rw [e]
  · exact h
  · exact clockOk_reference h (by have := ref.isLt; unfold max48; omega) _ _ _
  · exact clockOk_tickPark (clockOk_tickElapsed h)
  · obtain ⟨he, hp, ht, hs, _⟩ := h
    exact ⟨he, hp, ht, hs, by simp⟩

theorem parkTime_le_effect (c : Instr) {s : State} (h : ClockInv s) (set : s.clock.sync ≠ .unsynced) :
    s.clock.parkTime ≤ (effect c s).clock.parkTime := by
  rcases clock_effect_cases c s with e | ⟨ref, e⟩ | e | e <;> rw [e]
  · exact parkTime_le_reference set _ _ _ _
  · exact parkTime_le_tick ((clockInv_iff s).1 h)

theorem clockInv_reset : ClockInv State.reset := by
  simp [clockInv_iff, ClockOk, TrimOk, State.reset, Clock.reset, max48]

theorem clockInv_step {s t : State} (hs : ClockInv s) (h : step s = .next t) : ClockInv t := by
  refine step_keeps ClockInv (fun _ _ h => h) clockInv_reset (fun _ _ h => h) (fun _ _ h => h) (fun s h => ?_) clockInv_effect s t hs h
  obtain ⟨_, _, rest⟩ := h
  exact ⟨Nat.zero_le _, Nat.zero_le _, rest⟩

/-- Without a reset park time of a clock that has been set does not go back: RESET leaves a part that is held, and RESET_RELEASE finds
one. -/
theorem parkTime_le_step {s t : State} (hs : ClockInv s) (h : step s = .next t) (held : s.held = false)
    (held' : t.held = false) (set : s.clock.sync ≠ .unsynced) : s.clock.parkTime ≤ t.clock.parkTime := by
  cases hp : s.pending with
  | nil => rw [step_nil hp] at h; cases h; exact le_rfl
  | cons c rest =>
    rw [step_cons hp] at h
    by_cases h1 : c = .reset
    · subst h1
      rw [exec_reset] at h; cases h; cases held'
    by_cases h2 : c = .resetRelease
    · subst h2
      rw [exec_resetRelease] at h; cases h
      simp [held]
    rw [exec_effect c _ h1 h2, if_neg (by simp [held])] at h; cases h
    exact parkTime_le_effect c (s := { s with pending := rest }) hs set

/-- Settles O58: the clock's invariant through each of the four things a command can do to the clock, and of these only a step and a
millisecond write park time of a clock that has been set. -/
theorem clockKept : Obligations.ClockKept :=
  fun _ _ hs h => ⟨clockInv_step hs h, parkTime_le_step hs h⟩

end Sys2Proof.Proofs.ParkClock
end

section
/-! The ledger: what the session table keeps of every session until it closes (its number, hold, tariff, billed energy and the record it
waits with, R39, R40, R62), and the session counter. Every operation but an arming, a top-up, a pulse, a closing and a release of the
queue's head leaves it; said here once for each operation. -/

namespace Sys2Proof.Proofs.Accounts

open Sys2Proof.Machine Sys2Proof.Safety Sys2Proof.Laws Sys2Proof.Proofs.Footprint

/-! ### Accounts -/

/-- The fields of a session that no transition between its states writes. -/
structure Account where
  number : Nat
  hold : Nat
  tariff : TariffCopy
  pulseEnergy : Nat
  bandSubtotals : List Nat
  energyCharge : Nat
  energyRemainder : Nat
  closure : Option ClosureRecord

def accountOf (ses : Session) : Account :=
  { number := ses.number, hold := ses.hold, tariff := ses.tariff, pulseEnergy := ses.pulseEnergy,
    bandSubtotals := ses.bandSubtotals, energyCharge := ses.energyCharge, energyRemainder := ses.energyRemainder,
    closure := ses.state.closure? }

structure Ledger where
  accounts : Outlet → Option Account
  next : Nat

def ledger (s : State) : Ledger := { accounts := fun o => (s.slot o).map accountOf, next := s.sessions.nextNumber }

theorem accounts_ledger (s : State) (o : Outlet) : (ledger s).accounts o = (s.slot o).map accountOf := rfl
theorem next_ledger (s : State) : (ledger s).next = s.sessions.nextNumber := rfl

/-- R62: a session has a finished record exactly in CLOSED_WAIT. -/
theorem closure?_eq_some {st : SessionState} {r : ClosureRecord} : st.closure? = some r ↔ ∃ n, st = .closedWait r n := by
  cases st <;> simp [SessionState.closure?]

theorem closure?_of_open {st : SessionState} (h : st.open = true) : st.closure? = none := by
  cases st <;> first | rfl | cases h

theorem accountOf_leaveParked (ses : Session) (st : SessionState) :
    accountOf { ses.leaveParked with state := st } = { accountOf ses with closure := st.closure? } := by
  unfold Session.leaveParked
  split <;> rfl

/-! ### Updates -/

variable {s t : State} {o : Outlet} {ses v : Session}

theorem ledger_congr (h : t.sessions = s.sessions) : ledger t = ledger s := by
  simp only [ledger, State.slot, h]

theorem ledger_of_slots (h : ∀ p, (t.slot p).map accountOf = (s.slot p).map accountOf)
    (next : t.sessions.nextNumber = s.sessions.nextNumber) : ledger t = ledger s := by
  simp only [ledger, h, next]

/-- A slot rewritten with the same account. -/
theorem ledger_setSlot (h : s.slot o = some ses) (e : accountOf v = accountOf ses) :
    ledger (s.setSlot o (some v)) = ledger s := by
  refine ledger_of_slots (fun p => ?_) rfl
  rw [slot_setSlot]
  split
  next ho => subst ho; rw [h, Option.map_some, Option.map_some, e]
  next => rfl

theorem ledger_setAndRelease (h : s.slot o = some ses) (e : accountOf v = accountOf ses) :
    ledger (s.setAndRelease o v) = ledger s :=
  (ledger_congr (sessions_outletRelease ..)).trans (ledger_setSlot h e)

@[simp] theorem ledger_raiseOutlet (s : State) (k : OutletNotice) (o : Outlet) :
    ledger (s.raiseOutlet k o) = ledger s := rfl

@[simp] theorem ledger_raise (s : State) (k : PlainNotice) : ledger (s.raise k) = ledger s := rfl
@[simp] theorem ledger_setMeter (s : State) (o : Outlet) (m : Meter) : ledger (s.setMeter o m) = ledger s := rfl
@[simp] theorem ledger_setModule (s : State) (m : ModuleNo) (v : Module) : ledger (s.setModule m v) = ledger s := rfl
@[simp] theorem ledger_setModuleState (s : State) (m : ModuleNo) (v : ModuleState) :
    ledger (s.setModuleState m v) = ledger s := rfl
@[simp] theorem ledger_setCabinet (s : State) (c : CabinetLink) : ledger (s.setCabinet c) = ledger s := rfl
@[simp] theorem ledger_openModule (s : State) (m : ModuleNo) (o : Outlet) : ledger (s.openModule m o) = ledger s := rfl

/-! ### Modules leaving an outlet, and the entry into STOPPING -/

@[simp] theorem ledger_setSettleDeadline (s : State) (o : Outlet) : ledger (s.setSettleDeadline o) = ledger s := by
  unfold State.setSettleDeadline
  split
  next => rfl
  next ses h =>
    split
    next st => exact ledger_setSlot h (by simp [accountOf, st, SessionState.closure?])
    next => rfl

@[simp] theorem ledger_reportIfEmpty (s : State) (o : Outlet) : ledger (s.reportIfEmpty o) = ledger s := by
  unfold State.reportIfEmpty
  split <;> simp

@[simp] theorem ledger_unassign (s : State) (m : ModuleNo) (st : ModuleState) : ledger (s.unassign m st) = ledger s := by
  unfold State.unassign
  split
  · rw [ledger_reportIfEmpty]; rfl
  · rfl

@[simp] theorem ledger_faultModule (s : State) (m : ModuleNo) (r : FaultReason) :
    ledger (s.faultModule m r) = ledger s := by
  have unrouted : ledger (if (s.module m).state.assigned.isSome then s.issue (.unroute m) else s) = ledger s := by
    split <;> rfl
  exact (ledger_unassign ..).trans unrouted

theorem ledger_enterStopping (reason : EndReason) (h : ∀ ses, s.slot o = some ses → ses.state.closure? = none) :
    ledger (s.enterStopping o reason) = ledger s := by
  unfold State.enterStopping
  split
  next => rfl
  next ses hs =>
    have same : accountOf { ses.leaveParked with state := .stopping reason s.clock.parkTime none } = accountOf ses := by
      rw [accountOf_leaveParked]
      simp only [accountOf, h ses hs]
      rfl
    rw [ledger_reportIfEmpty, ledger_raiseOutlet, ledger_setAndRelease hs same]

/-! ### The funds guard -/

@[simp] theorem ledger_sendFundsLow (s : State) (o : Outlet) : ledger (s.sendFundsLow o) = ledger s := by
  unfold State.sendFundsLow
  split
  next => rfl
  next ses h => exact ledger_setSlot h rfl

/-- R89: the guard stops CHARGING and PARKED sessions only. -/
theorem closure?_of_fundsStop {parkTime guard : Nat} (h : ses.fundsStop parkTime guard = true) :
    ses.state.closure? = none := by
  unfold Session.fundsStop at h
  split at h <;> simp_all [SessionState.closure?]

@[simp] theorem ledger_evaluateFunds (s : State) (o : Outlet) : ledger (s.evaluateFunds o) = ledger s := by
  unfold State.evaluateFunds
  split
  next => rfl
  next ses h =>
    have stopped : ledger (if ses.fundsStop s.clock.parkTime s.control.park.guardEnergy then s.enterStopping o .funds else s) =
        ledger s := by
      split
      next stop =>
        refine ledger_enterStopping _ fun v hv => ?_
        rw [h] at hv; cases hv
        exact closure?_of_fundsStop stop
      next => rfl
    split
    · simp only
      split
      · rw [ledger_sendFundsLow, stopped]
      · exact stopped
    · rfl

@[simp] theorem ledger_evaluateTopup (s : State) (o : Outlet) : ledger (s.evaluateTopup o) = ledger s := by
  unfold State.evaluateTopup
  split
  next => rfl
  next ses h =>
    split
    · simp only
      split
      next => exact ledger_evaluateFunds s o
      next after ha =>
        rw [ledger_setSlot (v := { after with fundsLowSent := false }) ha rfl, ledger_evaluateFunds]
    · exact ledger_evaluateFunds s o

/-! ### The takes, R43 to R51 and R104 to R107 -/

theorem ledger_firstEntry {d : Nat} (r : Report) (h : s.slot o = some ses) (st : ses.state = .armed d) :
    ledger (s.firstEntry o ses r) = ledger s := by
  refine Eq.trans ?_ (ledger_setSlot (v := { ses with
      state := .charging
      charge := some { stamp := s.sessions.nextStamp, meterStart := r.meter, lastMeter := r.meter,
                       startTime := s.clock.parkTime }
      feeCharged := ses.tariff.sessionFee }) h (by simp [accountOf, st, SessionState.closure?]))
  exact ledger_of_slots (fun _ => rfl) rfl

theorem ledger_applyPedestal (r : Report) (h : s.slot o = some ses) : ledger (s.applyPedestal o ses r) = ledger s := by
  have stopping : ses.state.closure? = none → ∀ reason, ledger (s.enterStopping o reason) = ledger s := fun hc reason =>
    ledger_enterStopping reason fun v hv => by rw [h] at hv; cases hv; exact hc
  have resumed : ses.state = .parked → ledger (s.setSlot o (some { ses.leaveParked with state := .charging })) = ledger s :=
    fun st => ledger_setSlot h (by rw [accountOf_leaveParked]; simp [accountOf, st, SessionState.closure?])
  unfold State.applyPedestal
  split
  case h_1 st _ => exact ledger_firstEntry r h st
  case h_2 st _ => exact ledger_firstEntry r h st
  case h_3 st _ => exact stopping (by rw [st]; rfl) _
  case h_4 st _ => exact stopping (by rw [st]; rfl) _
  case h_5 st _ => exact ledger_setAndRelease h (by simp [accountOf, st, SessionState.closure?])
  case h_6 st _ => exact stopping (by rw [st]; rfl) _
  case h_7 st _ => exact stopping (by rw [st]; rfl) _
  case h_8 st _ => exact resumed st
  case h_9 st _ => exact resumed st
  case h_10 st _ => exact stopping (by rw [st]; rfl) _
  case h_11 => rfl

@[simp] theorem ledger_applyReport (s : State) (o : Outlet) (r : Report) : ledger (s.applyReport o r) = ledger s := by
  unfold State.applyReport
  split
  next => rfl
  next ses h =>
    split
    next stop =>
      refine ledger_enterStopping _ fun v hv => ?_
      rw [h] at hv; cases hv
      cases st : ses.state <;> simp [st, SessionState.stoppable, SessionState.closure?] at stop ⊢
    next => exact ledger_applyPedestal r h

@[simp] theorem ledger_resume (s : State) (o : Outlet) : ledger (s.resume o) = ledger s := by
  unfold State.resume
  split
  next => rfl
  next ses h =>
    split
    next st => exact ledger_setSlot h (by simp [accountOf, st, SessionState.closure?])
    next st => exact ledger_setAndRelease h (by simp [accountOf, st, SessionState.closure?])
    next => rfl

@[simp] theorem ledger_recordMeter (s : State) (o : Outlet) (r : Report) : ledger (s.recordMeter o r) = ledger s := by
  unfold State.recordMeter
  split
  next => rfl
  next ses h => exact ledger_setSlot h (by unfold Session.readMeter; split <;> rfl)

theorem isCharging_iff : s.isCharging o = true ↔ ∃ ses, s.slot o = some ses ∧ ses.state = .charging := by
  unfold State.isCharging
  cases s.slot o <;> simp

/-- R43: the meter register leaves every session's state. -/
theorem isCharging_recordMeter (s : State) (o : Outlet) (r : Report) : (s.recordMeter o r).isCharging o = s.isCharging o := by
  unfold State.recordMeter
  cases h : s.slot o with
  | none => rfl
  | some ses =>
    have state : (ses.readMeter r).state = ses.state := by unfold Session.readMeter; split <;> rfl
    simp [State.isCharging, h, state]

theorem ledger_overdrawCheck (measured : Nat) (h : s.isCharging o = true) : ledger (s.overdrawCheck o measured) = ledger s := by
  obtain ⟨ses, hs, st⟩ := isCharging_iff.1 h
  unfold State.overdrawCheck
  split
  · simp only
    split
    · refine (ledger_enterStopping .overdraw fun v hv => ?_ : ledger _ = _)
      rw [slot_setMeter, hs] at hv; cases hv
      rw [st]; rfl
    · rfl
  · rfl

@[simp] theorem ledger_sessionFresh (s : State) (o : Outlet) (r : Report) : ledger (s.sessionFresh o r) = ledger s := by
  unfold State.sessionFresh
  simp only
  split
  next h =>
    rw [Bool.and_eq_true] at h
    rw [ledger_overdrawCheck _ (by rw [isCharging_recordMeter]; exact h.2)]
    simp
  next => simp

theorem ledger_suspend (from' : Resumable) (h : s.slot o = some ses) (hc : ses.state.closure? = none) :
    ledger (s.suspend o ses from') = ledger s := by
  unfold State.suspend
  rw [ledger_raiseOutlet, ledger_setAndRelease h]
  rw [accountOf_leaveParked]
  simp only [accountOf, hc]
  rfl

@[simp] theorem ledger_linkLost (s : State) (o : Outlet) : ledger (s.linkLost o) = ledger s := by
  unfold State.linkLost
  split
  next => rfl
  next ses h =>
    split
    next st => exact ledger_suspend _ h (by rw [st]; rfl)
    next st => exact ledger_suspend _ h (by rw [st]; rfl)
    all_goals rfl

@[simp] theorem ledger_take (s : State) (o : Outlet) : ledger (s.take o) = ledger s := by
  unfold State.take
  split
  · split
    next r _ => exact ledger_sessionFresh _ o r
    next =>
      unfold State.staleTake
      simp only
      split
      · rw [ledger_linkLost]; rfl
      · rfl
  · rfl

@[simp] theorem ledger_takes (s : State) : ledger s.takes = ledger s := foldl_field ledger _ ledger_take _ s

@[simp] theorem ledger_fundsStage (s : State) : ledger s.fundsStage = ledger s :=
  foldl_field ledger _ ledger_evaluateFunds _ s

@[simp] theorem ledger_dispatch (s : State) : ledger s.dispatch = ledger s := by
  have later : ledger s.dispatch = ledger s.fundsStage := ledger_congr (by simp [State.dispatch])
  rw [later, ledger_fundsStage]

@[simp] theorem ledger_cycleExpiry (s : State) (quiet : Bool) : ledger (s.cycleExpiry quiet) = ledger s := by
  unfold State.cycleExpiry
  split
  next d _ =>
    rw [ledger_congr (sessions_handOver ..), ledger_dispatch, ledger_takes]
    rfl
  next => rfl

/-! ### Time -/

@[simp] theorem ledger_flagLive (s : State) (f : ClockFlag) : ledger (s.flagLive f) = ledger s := by
  have flagged : ∀ ses : Session, accountOf (ses.setFlag f) = accountOf ses := fun ses => by cases f <;> rfl
  refine ledger_of_slots (fun p => ?_) rfl
  rw [slot_flagLive, Option.map_map]
  congr 1
  funext ses
  simp only [Function.comp]
  split
  · exact flagged ses
  · rfl

theorem ledger_referenceFlags (s : State) (k : RefOutcome) : ledger (s.referenceFlags k) = ledger s := by
  cases k <;> simp [State.referenceFlags]

@[simp] theorem ledger_answerTimeRef (s : State) (ref : Nat) : ledger (s.answerTimeRef ref).state = ledger s :=
  (ledger_referenceFlags _ _).trans rfl

@[simp] theorem ledger_enterHoldover (s : State) : ledger s.enterHoldover = ledger s := by
  unfold State.enterHoldover
  rw [ledger_raise, ledger_flagLive]
  rfl

theorem accountOf_tick (ses : Session) : accountOf ses.tick = accountOf ses := by
  unfold Session.tick
  split <;> rfl

theorem slot_millisecond (s : State) (p : Outlet) : s.millisecond.slot p = (s.slot p).map Session.tick := by
  simp [State.millisecond, State.slot]

@[simp] theorem ledger_millisecond (s : State) : ledger s.millisecond = ledger s := by
  refine ledger_of_slots (fun p => ?_) rfl
  rw [slot_millisecond, Option.map_map]
  congr 1
  funext ses
  exact accountOf_tick ses

/-! ### Session events and requests -/

theorem ledger_enterStopping_of_open (reason : EndReason) (h : ∀ ses, s.slot o = some ses → ses.state.open = true) :
    ledger (s.enterStopping o reason) = ledger s :=
  ledger_enterStopping reason fun v hv => closure?_of_open (h v hv)

@[simp] theorem ledger_answerStop (s : State) (number : Nat) : ledger (s.answerStop number).state = ledger s := by
  unfold State.answerStop
  split
  next => rfl
  next o _ =>
    split
    next => rfl
    next ses h =>
      split
      next st => exact ledger_enterStopping_of_open _ fun v hv => by rw [h] at hv; cases hv; exact st
      next => rfl

@[simp] theorem ledger_armDeadline (s : State) (o : Outlet) : ledger (s.armDeadline o) = ledger s := by
  unfold State.armDeadline
  split
  next d h =>
    split
    · refine ledger_enterStopping _ fun v hv => ?_
      rw [hv, Option.bind_some] at h
      cases st : v.state <;> simp [st, SessionState.armDeadline?, SessionState.closure?] at h ⊢
    · rfl
  next => rfl

@[simp] theorem ledger_suspendDeadline (s : State) (o : Outlet) : ledger (s.suspendDeadline o) = ledger s := by
  unfold State.suspendDeadline
  split
  next d h =>
    split
    · refine ledger_enterStopping _ fun v hv => ?_
      rw [hv, Option.bind_some] at h
      cases st : v.state <;> simp [st, SessionState.suspendDeadline?, SessionState.closure?] at h ⊢
    · rfl
  next => rfl

@[simp] theorem ledger_idleAccrual (s : State) (o : Outlet) : ledger (s.idleAccrual o) = ledger s := by
  unfold State.idleAccrual
  split
  next => rfl
  next ses h =>
    have accrued : ledger (s.setSlot o (some ses.accrue.1)) = ledger s :=
      ledger_setSlot h (by unfold Session.accrue; simp only; split <;> rfl)
    split
    · simp only
      split
      · rw [ledger_evaluateFunds, accrued]
      · exact accrued
    · rfl

@[simp] theorem ledger_answerStartPark (s : State) : ledger s.answerStartPark.state = ledger s := by
  unfold State.answerStartPark
  repeat' split
  all_goals rfl

/-! ### Module events -/

@[simp] theorem ledger_cabinetMessageDone (s : State) : ledger s.cabinetMessageDone = ledger s := rfl

@[simp] theorem ledger_confirm (s : State) (m : ModuleNo) (route : Option Outlet) : ledger (s.confirm m route) = ledger s := by
  unfold State.confirm State.routeConfirmed State.opened State.unexpectedConfirm
  repeat' split
  all_goals simp

@[simp] theorem ledger_faultOn (s : State) (m : ModuleNo) : ledger (s.faultOn m) = ledger s := by
  unfold State.faultOn State.setIndication
  simp only
  split <;> simp

@[simp] theorem ledger_switchTimeout (s : State) (m : ModuleNo) : ledger (s.switchTimeout m) = ledger s := by
  unfold State.switchTimeout
  repeat' split
  all_goals simp

@[simp] theorem ledger_openingTimeout (s : State) (m : ModuleNo) : ledger (s.openingTimeout m) = ledger s := by
  unfold State.openingTimeout
  repeat' split
  all_goals simp

/-! ### Every command -/

/-- The commands that write the ledger. -/
def writesLedger : Instr → Bool
  | .arm _ _ _ _ _ | .topup _ _ | .releaseClosure _ | .pulseTaken _ | .settleDeadline _ => true
  | _ => false

theorem ledger_effect {c : Instr} (s : State) (h : writesLedger c = false) : ledger (effect c s) = ledger s := by
  by_cases hc : writesSessions c = false
  · exact ledger_congr (sessions_effect s hc)
  refine field_effect ledger (fun _ _ => rfl) c s (fun p code owner hp => ?_) fun _ => ?_
  · cases c <;> first | cases h; done | exact absurd rfl hc | cases hp <;> simp
  · cases c <;> first | cases h; done | exact absurd rfl hc | simp [eventEffect, apply_ite ledger]

end Sys2Proof.Proofs.Accounts
end

section
/-! The five commands that write the ledger: ARM, TOPUP, RELEASE_CLOSURE, PULSE_TAKEN and SETTLE_DEADLINE. What each can do, said once:
nothing, or the one change its rule gives it, with the conditions under which it makes it. -/

namespace Sys2Proof.Proofs.LedgerWriters

open Sys2Proof.Machine Sys2Proof.Safety Sys2Proof.Laws Sys2Proof.Proofs.Accounts

variable (s : State)

/-- R41, R42: ARM leaves the state or creates a session at a present VACANT outlet in OPERATING. -/
theorem answerArm_cases (outlet : Byte) (hold : Nat) (plan cls : Byte) (ref : Vector Byte 12) :
    (s.answerArm outlet hold plan cls ref).state = s ∨
      ∃ (o : Outlet) (n : Fin 8), s.control.mode = .operating ∧ s.present o = true ∧ s.slot o = none ∧
        hold ≤ Config.maxHold ∧
        (s.answerArm outlet hold plan cls ref).state =
          s.createSession o (s.newSession hold n.val cls.toNat (s.plan n) ref) := by
  unfold State.answerArm
  by_cases mode : s.control.mode = .operating
  swap
  · rw [if_pos mode]; exact .inl rfl
  rw [if_neg (not_not.2 mode)]
  cases outletOf outlet with
  | none => exact .inl rfl
  | some o =>
    simp only
    split
    · exact .inl rfl
    next present =>
    split
    · exact .inl rfl
    split
    · exact .inl rfl
    next vacant =>
    split
    · exact .inl rfl
    cases planOf plan with
    | none => exact .inl rfl
    | some n =>
      simp only
      split
      · exact .inl rfl
      split
      · exact .inl rfl
      split
      · exact .inl rfl
      split
      · exact .inl rfl
      next within =>
      exact .inr ⟨o, n, mode, by simpa using present, by simpa using vacant, by omega, rfl⟩

/-- R53: TOPUP leaves the state or raises the hold of an open session, within the largest hold, and has the funds evaluated. -/
theorem answerTopup_cases (number amount : Nat) :
    (s.answerTopup number amount).state = s ∨
      ∃ (o : Outlet) (ses : Session), s.slot o = some ses ∧ ses.state.open = true ∧
        ses.hold + amount ≤ Config.maxHold ∧
        (s.answerTopup number amount).state =
          (s.setSlot o (some { ses with hold := ses.hold + amount })).evaluateTopup o := by
  unfold State.answerTopup
  cases s.findSession number with
  | none => exact .inl rfl
  | some o =>
    simp only
    cases h : s.slot o with
    | none => exact .inl rfl
    | some ses =>
      simp only
      split
      · exact .inl rfl
      next live =>
      split
      · exact .inl rfl
      next within => exact .inr ⟨o, ses, h, by simpa using live, by omega, rfl⟩

/-- R159: RELEASE_CLOSURE leaves the state or removes the head of the queue and admits a waiting session. -/
theorem answerRelease_cases (number : Nat) :
    (s.answerRelease number).state = s ∨
      ∃ r rest, s.closures = r :: rest ∧
        (s.answerRelease number).state = ({ s with closures := rest } : State).admitWaiter := by
  unfold State.answerRelease
  cases h : s.closures with
  | nil => exact .inl rfl
  | cons r rest =>
    simp only
    split
    · exact .inr ⟨r, rest, rfl, rfl⟩
    · exact .inl rfl

theorem mem_waiters {w : Waiter} (h : w ∈ s.waiters) :
    ∃ ses, s.slot w.outlet = some ses ∧ ses.state = .closedWait w.closure w.stamp := by
  obtain ⟨o, _, ho⟩ := List.mem_filterMap.1 h
  split at ho
  · cases ho
  next ses hs =>
    split at ho
    next st => cases ho; exact ⟨ses, hs, st⟩
    · cases ho

theorem waiter_mem {o : Outlet} {ses : Session} {r : ClosureRecord} {n : Nat} (h : s.slot o = some ses)
    (st : ses.state = .closedWait r n) : (⟨o, n, r⟩ : Waiter) ∈ s.waiters :=
  List.mem_filterMap.2 ⟨o, mem_allOutlets o, by simp only [h, st]⟩

theorem firstWaiter_eq_none {l : List Waiter} (h : firstWaiter l = none) : l = [] := by
  cases l with
  | nil => rfl
  | cons w rest =>
    simp only [firstWaiter] at h
    split at h
    · cases h
    · split at h <;> cases h

/-- R160: with no session waiting an admission leaves the state; otherwise a waiting session's record joins the queue and its slot becomes
VACANT. -/
theorem admitWaiter_cases :
    ((∀ o ses r n, s.slot o = some ses → ses.state ≠ .closedWait r n) ∧ s.admitWaiter = s) ∨
      ∃ o ses r n, s.slot o = some ses ∧ ses.state = .closedWait r n ∧
        s.admitWaiter = (({ s with closures := s.closures ++ [r] } : State).raise .closureReady).setSlot o none := by
  unfold State.admitWaiter
  cases hw : firstWaiter s.waiters with
  | none =>
    refine .inl ⟨fun o ses r n h st => ?_, rfl⟩
    have := waiter_mem s h st
    rw [firstWaiter_eq_none hw] at this
    cases this
  | some w =>
    obtain ⟨ses, h, st⟩ := mem_waiters s (mem_of_firstWaiter hw)
    exact .inr ⟨w.outlet, ses, w.closure, w.stamp, h, st, rfl⟩

/-- R61, R156: a settle deadline leaves the state or closes the STOPPING session. -/
theorem settleDeadline_cases (o : Outlet) :
    s.settleDeadline o = s ∨
      ∃ ses reason time d, s.slot o = some ses ∧ ses.state = .stopping reason time (some d) ∧
        s.settleDeadline o = s.offer o ses (ses.close o reason time s.clock.parkTime) := by
  unfold State.settleDeadline
  cases h : s.slot o with
  | none => exact .inl rfl
  | some ses =>
    simp only
    split
    next reason time d st =>
      split
      · exact .inr ⟨ses, reason, time, d, rfl, st, rfl⟩
      · exact .inl rfl
    · exact .inl rfl

/-- R69 to R72: a pulse is billed into the session that can take it, or leaves the ledger. -/
theorem attributePulse_cases (o : Outlet) (w stamp : Nat) :
    s.attributePulse o w stamp = s.strayPulse o w ∨
      ∃ ses, s.slot o = some ses ∧ ses.state.bills = true ∧ ses.pulseEnergy + w ≤ max32 ∧
        s.attributePulse o w stamp = (s.setSlot o (some (ses.bill w stamp))).evaluateFunds o := by
  unfold State.attributePulse
  cases h : s.slot o with
  | none => exact .inl rfl
  | some ses =>
    simp only
    split
    next room => exact .inr ⟨ses, rfl, room.1, room.2, rfl⟩
    · exact .inl rfl

/-- R66: PULSE_TAKEN leaves the state or takes the pulse of a low level that is wide enough. -/
theorem takePulse_cases (o : Outlet) :
    s.takePulse o = s ∨ ∃ stamp, s.takePulse o =
      (s.setMeter o { s.meter o with filter := .lowTaken, pulses := satAdd (s.meter o).pulses 1 }).attributePulse o
        (s.outletItems o).pulseWeight stamp := by
  unfold State.takePulse
  split
  next n stamp _ =>
    split
    · exact .inr ⟨stamp, rfl⟩
    · exact .inl rfl
  · exact .inl rfl

/-! ### What the five leave in the ledger -/

theorem accounts_setSlot (o p : Outlet) (v : Option Session) :
    (ledger (s.setSlot o v)).accounts p = if o = p then v.map accountOf else (ledger s).accounts p := by
  rw [accounts_ledger, slot_setSlot]
  split <;> rfl

theorem ledger_createSession (o p : Outlet) (ses : Session) : (ledger (s.createSession o ses)).accounts p =
    if o = p then some (accountOf ses) else (ledger s).accounts p :=
  accounts_setSlot s o p (some ses)

end Sys2Proof.Proofs.LedgerWriters
end

section
/-! Money (R32, R40, R70, R81, R93, R154): every plan's bands are well formed, every account is exactly priced within its hold, and so is
every record made of one. -/

namespace Sys2Proof.Proofs.Money

open Sys2Proof.Machine Sys2Proof.Safety Sys2Proof.Laws
open Sys2Proof.Proofs.Footprint Sys2Proof.Proofs.Accounts Sys2Proof.Proofs.LedgerWriters

/-! ### The invariant read off the ledger -/

/-- `SessionPriced`, read off the account. -/
def AccountPriced (a : Account) : Prop :=
  bandsWellFormed a.tariff.bands = true ∧ a.bandSubtotals.length = a.tariff.bands.length ∧
    a.pulseEnergy = a.bandSubtotals.sum ∧ a.pulseEnergy ≤ max32 ∧ a.energyRemainder < 1000 ∧
    a.energyCharge * 1000 + a.energyRemainder = pricedEnergy a.tariff.bands a.bandSubtotals ∧
    a.hold ≤ Config.maxHold

def MoneyOk (a : Account) : Prop := AccountPriced a ∧ ∀ r, a.closure = some r → RecordPriced r

def PlansFormed (s : State) : Prop := ∀ n, bandsWellFormed (s.plan n).bands = true

def AccountsOk (s : State) : Prop := ∀ o a, (ledger s).accounts o = some a → MoneyOk a

def ClosuresPriced (s : State) : Prop := ∀ r ∈ s.closures, RecordPriced r

theorem moneyOk_accountOf (ses : Session) :
    MoneyOk (accountOf ses) ↔ SessionPriced ses ∧ WaitingRecordPriced ses := by
  refine and_congr Iff.rfl ?_
  simp only [accountOf, closure?_eq_some, WaitingRecordPriced]
  exact ⟨fun h r n st => h r ⟨n, st⟩, fun h r ⟨n, st⟩ => h r n st⟩

theorem moneyInv_iff (s : State) : MoneyInv s ↔ PlansFormed s ∧ AccountsOk s ∧ ClosuresPriced s := by
  refine and_congr Iff.rfl (and_congr ?_ Iff.rfl)
  simp only [AccountsOk, accounts_ledger, Option.map_eq_some_iff, ← moneyOk_accountOf]
  exact ⟨fun h o a ⟨ses, hs, e⟩ => e ▸ h o ses hs, fun h o ses hs => h o _ ⟨ses, hs, rfl⟩⟩

theorem plansFormed_congr {s t : State} (e : t.plans = s.plans) (h : PlansFormed s) : PlansFormed t :=
  fun n => by rw [plan_congr e]; exact h n

theorem closuresPriced_congr {s t : State} (e : t.closures = s.closures) (h : ClosuresPriced s) : ClosuresPriced t := by
  unfold ClosuresPriced
  rwa [e]

theorem AccountsOk.at {s : State} (h : AccountsOk s) {o : Outlet} {ses : Session} (hs : s.slot o = some ses) :
    MoneyOk (accountOf ses) :=
  h o _ (by rw [accounts_ledger, hs]; rfl)

theorem accountsOk_congr {s t : State} (e : ledger t = ledger s) (h : AccountsOk s) : AccountsOk t := by
  unfold AccountsOk
  rwa [e]

theorem accountsOk_setSlot {s : State} (h : AccountsOk s) (o : Outlet) {v : Option Session}
    (hv : ∀ ses, v = some ses → MoneyOk (accountOf ses)) : AccountsOk (s.setSlot o v) := by
  intro p a ha
  rw [accounts_setSlot] at ha
  split at ha
  · obtain ⟨ses, rfl, rfl⟩ := Option.map_eq_some_iff.1 ha
    exact hv ses rfl
  · exact h p a ha

/-! ### Billing a pulse, R70 and R81 -/

/-- R81: what a pulse adds to the price is carried into charge and remainder exactly. -/
theorem carry_exact {charge remainder price price' x : Nat} (h : charge * 1000 + remainder = price)
    (raised : price' = price + x) :
    (charge + (remainder + x) / 1000) * 1000 + (remainder + x) % 1000 = price' := by
  rw [raised, ← h, Nat.add_mul, Nat.add_assoc, Nat.div_add_mod', Nat.add_assoc]

theorem accountPriced_bill {ses : Session} {w : Nat} (stamp : Nat) (h : AccountPriced (accountOf ses))
    (room : ses.pulseEnergy + w ≤ max32) : AccountPriced (accountOf (ses.bill w stamp)) := by
  obtain ⟨formed, len, sum, _, _, priced, hold⟩ := h
  obtain ⟨b, hb, price⟩ := bandInForce_mem formed stamp
  have index : (bandInForce ses.tariff.bands stamp).1 < ses.bandSubtotals.length := by
    have := (List.getElem?_eq_some_iff.1 hb).1
    simp only [accountOf] at this len
    omega
  refine ⟨formed, ?_, ?_, room, Nat.mod_lt _ (by decide), ?_, hold⟩
  · simpa [accountOf, Session.bill, length_addAt] using len
  · simpa [accountOf, Session.bill, sum_addAt _ _ _ index] using sum
  · have raised := pricedEnergy_addAt w ses.tariff.bands ses.bandSubtotals _ b hb len
    rw [price, Nat.mul_comm _ w] at raised
    exact carry_exact priced raised

theorem closure?_of_bills {st : SessionState} (h : st.bills = true) : st.closure? = none := by
  cases st <;> first | rfl | cases h

/-! ### Closing, R93 and R154 -/

theorem recordPriced_close {ses : Session} (h : AccountPriced (accountOf ses)) (o : Outlet) (reason : EndReason)
    (stopTime closureTime : Nat) : RecordPriced (ses.close o reason stopTime closureTime) := by
  obtain ⟨_, len, sum, _, remainder, priced, _⟩ := h
  refine ⟨Nat.min_le_left _ _, rfl, ?_, remainder, ?_⟩
  · exact sum.trans (congrArg List.sum (closedBands_subtotals _ _ len).symm)
  · exact priced.trans (closedBands_priced _ _ len).symm

/-! ### Every command keeps each of the three parts -/

theorem plansFormed_setPlan {s : State} (h : PlansFormed s) (n : Fin 8) {p : Plan} (hp : bandsWellFormed p.bands = true) :
    PlansFormed (s.setPlan n p) := by
  intro k
  rw [plan_setPlan]
  split
  · exact hp
  · exact h k

theorem plansFormed_answerWritePlan {s : State} (h : PlansFormed s) (plan : Byte) (fee idle grace count : Nat)
    (bands : List Byte) : PlansFormed (s.answerWritePlan plan fee idle grace count bands).state := by
  unfold State.answerWritePlan
  cases planOf plan with
  | none => exact h
  | some n =>
    simp only
    split
    · exact h
    · split
      · exact h
      · split
        next formed => exact plansFormed_setPlan h n formed
        next => exact h

theorem plansFormed_answerInvalidatePlan {s : State} (h : PlansFormed s) (plan : Byte) :
    PlansFormed (s.answerInvalidatePlan plan).state := by
  unfold State.answerInvalidatePlan
  cases planOf plan with
  | none => exact h
  | some n =>
    simp only
    split
    · exact plansFormed_setPlan h n (h n)
    · exact h

theorem plansFormed_effect (c : Instr) {s : State} (h : PlansFormed s) : PlansFormed (effect c s) := by
  cases c with
  | writePlan plan fee idle grace count bands =>
    have kept := plansFormed_answerWritePlan h plan fee.toNat idle.toNat grace.toNat count.toNat bands
    exact keeps_request (I := PlansFormed) (c := .writePlan plan fee idle grace count bands) (fun _ _ => plansFormed_congr rfl) rfl h kept
  | invalidatePlan plan =>
    have kept := plansFormed_answerInvalidatePlan h plan
    exact keeps_request (I := PlansFormed) (c := .invalidatePlan plan) (fun _ _ => plansFormed_congr rfl) rfl h kept
  | _ => exact plansFormed_congr (plans_effect s rfl) h

theorem moneyOk_newSession {s : State} (h : PlansFormed s) {hold : Nat} (within : hold ≤ Config.maxHold) (plan cls : Nat)
    (n : Fin 8) (ref : Vector Byte 12) : MoneyOk (accountOf (s.newSession hold plan cls (s.plan n) ref)) := by
  have unbilled : ∀ bands : List Band, (bands.map fun _ => 0).sum = 0 ∧ pricedEnergy bands (bands.map fun _ => 0) = 0 := by
    intro bands
    induction bands with
    | nil => exact ⟨rfl, rfl⟩
    | cons b rest ih =>
      obtain ⟨sum, priced⟩ := ih
      exact ⟨by rw [List.map_cons, List.sum_cons, sum], by rw [List.map_cons, pricedEnergy, priced]; rfl⟩
  obtain ⟨sum, priced⟩ := unbilled (s.plan n).bands
  refine ⟨?_, fun _ e => nomatch e⟩
  unfold AccountPriced accountOf State.newSession Plan.copy
  refine ⟨h n, by simp, sum.symm, Nat.zero_le _, by simp, ?_, within⟩
  simpa using priced.symm

theorem accountsOk_arm {s : State} (plans : PlansFormed s) (h : AccountsOk s) (outlet : Byte) (hold : Nat) (plan cls : Byte)
    (ref : Vector Byte 12) : AccountsOk (s.answerArm outlet hold plan cls ref).state := by
  rcases answerArm_cases s outlet hold plan cls ref with e | ⟨o, n, _, _, _, within, e⟩ <;> rw [e]
  · exact h
  · intro p a ha
    rw [ledger_createSession] at ha
    split at ha
    · cases ha
      exact moneyOk_newSession plans within _ _ n ref
    · exact h p a ha

theorem accountsOk_topup {s : State} (h : AccountsOk s) (number amount : Nat) :
    AccountsOk (s.answerTopup number amount).state := by
  rcases answerTopup_cases s number amount with e | ⟨o, ses, hs, _, within, e⟩ <;> rw [e]
  · exact h
  · refine accountsOk_congr (ledger_evaluateTopup _ o) (accountsOk_setSlot h o ?_)
    rintro v ⟨⟩
    obtain ⟨⟨formed, len, sum, room, remainder, priced, _⟩, waiting⟩ := h.at hs
    exact ⟨⟨formed, len, sum, room, remainder, priced, within⟩, waiting⟩

theorem accountsOk_takePulse {s : State} (h : AccountsOk s) (o : Outlet) : AccountsOk (s.takePulse o) := by
  rcases takePulse_cases s o with e | ⟨stamp, e⟩ <;> rw [e]
  · exact h
  generalize (s.outletItems o).pulseWeight = w
  have h : AccountsOk (s.setMeter o { s.meter o with filter := .lowTaken, pulses := satAdd (s.meter o).pulses 1 }) := h
  generalize s.setMeter o { s.meter o with filter := .lowTaken, pulses := satAdd (s.meter o).pulses 1 } = t at h ⊢
  rcases attributePulse_cases t o w stamp with e | ⟨ses, hs, bills, room, e⟩ <;> rw [e]
  · exact h
  · refine accountsOk_congr (ledger_evaluateFunds _ o) (accountsOk_setSlot h o ?_)
    rintro v ⟨⟩
    refine ⟨accountPriced_bill stamp (h.at hs).1 room, fun r hr => ?_⟩
    have open' : (accountOf (ses.bill w stamp)).closure = ses.state.closure? := rfl
    rw [open', closure?_of_bills bills] at hr
    cases hr

/-- R156: the closed session's account is gone, or waits with a record made of it; the queue gains the same record, or none. -/
theorem moneyOk_offer {s : State} (h : AccountsOk s) (queue : ClosuresPriced s) {o : Outlet} {ses : Session} {r : ClosureRecord}
    (hs : s.slot o = some ses) (hr : RecordPriced r) : AccountsOk (s.offer o ses r) ∧ ClosuresPriced (s.offer o ses r) := by
  unfold State.offer
  split
  · have kept : AccountsOk (({ s with closures := s.closures ++ [r] } : State).raise .closureReady) :=
      accountsOk_congr (ledger_congr rfl) h
    refine ⟨accountsOk_setSlot (v := none) kept o (fun _ e => nomatch e), fun q hq => ?_⟩
    rcases List.mem_append.1 hq with hq | hq
    · exact queue q hq
    · rw [List.mem_singleton.1 hq]; exact hr
  · refine ⟨accountsOk_setSlot h o ?_, queue⟩
    rintro v ⟨⟩
    exact ⟨(h.at hs).1, fun q hq => by cases hq; exact hr⟩

theorem moneyOk_settleDeadline {s : State} (h : AccountsOk s) (queue : ClosuresPriced s) (o : Outlet) :
    AccountsOk (s.settleDeadline o) ∧ ClosuresPriced (s.settleDeadline o) := by
  rcases settleDeadline_cases s o with e | ⟨ses, reason, time, d, hs, _, e⟩ <;> rw [e]
  · exact ⟨h, queue⟩
  · exact moneyOk_offer h queue hs (recordPriced_close (h.at hs).1 o reason time _)

theorem moneyOk_answerRelease {s : State} (h : AccountsOk s) (queue : ClosuresPriced s) (number : Nat) :
    AccountsOk (s.answerRelease number).state ∧ ClosuresPriced (s.answerRelease number).state := by
  rcases answerRelease_cases s number with e | ⟨r, rest, hc, e⟩ <;> rw [e]
  · exact ⟨h, queue⟩
  have restPriced : ClosuresPriced ({ s with closures := rest } : State) := fun q hq =>
    queue q (by rw [hc]; exact List.mem_cons_of_mem _ hq)
  rcases admitWaiter_cases ({ s with closures := rest } : State) with ⟨_, e⟩ | ⟨o, ses, q, n, hs, st, e⟩ <;> rw [e]
  · exact ⟨h, restPriced⟩
  · have kept : AccountsOk (({ s with closures := rest ++ [q] } : State).raise .closureReady) :=
      accountsOk_congr (ledger_congr rfl) h
    refine ⟨accountsOk_setSlot (v := none) kept o (fun _ e => nomatch e), fun x hx => ?_⟩
    rcases List.mem_append.1 hx with hx | hx
    · exact restPriced x hx
    · rw [List.mem_singleton.1 hx]
      exact (h.at (s := s) hs).2 q (closure?_eq_some.2 ⟨n, st⟩)

theorem moneyInv_effect (c : Instr) (s : State) (hs : MoneyInv s) : MoneyInv (effect c s) := by
  rw [moneyInv_iff] at hs ⊢
  obtain ⟨plans, accounts, queue⟩ := hs
  refine ⟨plansFormed_effect c plans, ?_⟩
  cases c with
  | arm outlet hold plan cls ref =>
    refine ⟨?_, closuresPriced_congr (closures_effect s rfl) queue⟩
    exact keeps_request (I := AccountsOk) (fun _ _ h => h) rfl accounts (accountsOk_arm plans accounts outlet _ plan cls ref)
  | topup number amount =>
    refine ⟨?_, closuresPriced_congr (closures_effect s rfl) queue⟩
    exact keeps_request (I := AccountsOk) (fun _ _ h => h) rfl accounts (accountsOk_topup accounts _ _)
  | pulseTaken o => exact ⟨accountsOk_takePulse accounts o, closuresPriced_congr (closures_effect s rfl) queue⟩
  | settleDeadline o => exact moneyOk_settleDeadline accounts queue o
  | releaseClosure number =>
    exact keeps_request (I := fun s => AccountsOk s ∧ ClosuresPriced s) (fun _ _ h => h) rfl ⟨accounts, queue⟩
      (moneyOk_answerRelease accounts queue _)
  | _ => exact ⟨accountsOk_congr (ledger_effect s rfl) accounts, closuresPriced_congr (closures_effect s rfl) queue⟩

theorem moneyInv_reset : MoneyInv State.reset := by
  refine ⟨by decide, fun o ses h => ?_, nofun⟩
  have vacant : ∀ o, State.reset.slot o = none := by decide
  rw [vacant o] at h
  cases h

/-- Settles O57: the accounts through the five commands that write them, the plans through their two writers. -/
theorem moneyKept : Obligations.MoneyKept := fun s t hs h =>
  step_keeps MoneyInv (fun _ _ h => h) moneyInv_reset (fun _ _ h => h) (fun _ _ h => h) (fun _ h => h) moneyInv_effect s t hs h

end Sys2Proof.Proofs.Money
end

section
/-! What a step and a command do as a whole (R18 to R22, R165 to R168): the queue, RESET, the request ports. -/

namespace Sys2Proof.Proofs.Stepping

open Sys2Proof.Machine Sys2Proof.Safety Sys2Proof.Laws

/-! ### One rule for requests, one for events -/

/-- A request on a port that listens is answered as its owner answers. -/
theorem exec_answer {c : Instr} {p : PortId} {code : Byte} {owner : State → Answer} {s : State} {a : Answer}
    (h : requestParts c = some (p, code, owner)) (l : Listening s p) (e : owner s = a) :
    exec c s = .next (a.state.respond p code a.status a.payload) := by
  rw [exec_listening h l, e]

/-- An event reaches a part that is not held in reset. -/
theorem exec_happens {c : Instr} {s t : State} (h : requestParts c = none) (h1 : c ≠ .reset) (h2 : c ≠ .resetRelease)
    (held : s.held = false) (e : eventEffect c s = t) : exec c s = .next t := by
  rw [exec_event s h h1 h2 held, e]

/-! ### Steps and the queue -/

/-- Settles O1: the definition of a step, by the queue. -/
theorem stepRunsFrontCommand : Obligations.StepRunsFrontCommand :=
  ⟨fun _ _ _ h => step_cons h, fun _ h => step_nil h⟩

/-- Settles O2: RESET, RESET_RELEASE, and every other command by its effect. -/
theorem everyCommandAnswersNext : Obligations.EveryCommandAnswersNext := by
  intro c s
  by_cases h1 : c = .reset
  · exact h1 ▸ ⟨_, exec_reset s⟩
  by_cases h2 : c = .resetRelease
  · exact h2 ▸ ⟨_, exec_resetRelease s⟩
  exact ⟨_, exec_effect c s h1 h2⟩

theorem pending_serve (s : State) (p : PortId) (code : Byte) (owner : State → Answer)
    (h : (owner s).state.pending = s.pending) : (serve s p code owner).pending = s.pending := by
  unfold serve
  split
  · cases p <;> rfl
  · rw [← h]
    cases p <;> rfl

theorem pending_effect (c : Instr) (s : State) : (effect c s).pending = s.pending := by
  unfold effect
  split
  next p code owner h => refine pending_serve s p code owner ?_; cases c <;> cases h <;> simp
  next h => cases c <;> simp [eventEffect, apply_ite State.pending]

/-- Settles O3: RESET keeps the queue, and no effect reaches it. -/
theorem commandsKeepTheQueue : Obligations.CommandsKeepTheQueue := by
  intro c s t h
  by_cases h1 : c = .reset
  · subst h1
    cases (exec_reset s).symm.trans h
    rfl
  by_cases h2 : c = .resetRelease
  · subst h2
    rw [exec_resetRelease] at h
    cases h
    split <;> rfl
  rw [exec_effect c s h1 h2] at h
  cases h
  split
  · rfl
  · exact pending_effect c s

/-! ### RESET, R18 to R20 -/

/-- Settles O4: while held in reset no effect is reached. -/
theorem resetHoldsThePart : Obligations.ResetHoldsThePart := by
  refine ⟨exec_reset, fun s held => ?_, fun c s held h1 h2 => ?_⟩
  · rw [exec_resetRelease, if_pos held]
  · rw [exec_effect c s h1 h2, if_pos held]

/-- Settles O5: the reset state, field by field. -/
theorem resetValues : Obligations.ResetValues := by
  have port : ∀ p, State.reset.port p = { rx := .hunting, responses := [], gaps := 0, overruns := 0 } := by
    intro p; cases p <;> rfl
  have quiet : ∀ p, State.reset.noticesEmpty p = true ∧ State.reset.attention p = false := by
    intro p; cases p <;> exact ⟨rfl, rfl⟩
  refine ⟨rfl, rfl, rfl, ?_, ?_, rfl, rfl, rfl, rfl, rfl, rfl, ?_, ?_, rfl, rfl, ?_, ?_, ?_, rfl, rfl, rfl, rfl, rfl, rfl, ?_, ?_,
    rfl, rfl, quiet, port⟩ <;> decide

/-! ### The request ports, R165 to R167 -/

/-- Settles O7: a response, and the response sent, on each of the two ports. -/
theorem responsesLeaveInOrder : Obligations.ResponsesLeaveInOrder := by
  refine ⟨fun s p code status payload => ⟨?_, fun q ne => ?_, ?_, ?_⟩, fun s p r rest held h => ?_⟩
  · cases p <;> rfl
  · cases p <;> cases q <;> first | rfl | exact absurd rfl ne
  · cases p <;> rfl
  · cases p <;> rfl
  · refine exec_happens rfl (by simp) (by simp) held ?_
    simp only [eventEffect, State.responseSent, h, List.tail_cons]

theorem portFull_of_room {s : State} {p : PortId} (h : Config.responseRoom ≤ (s.port p).responses.length) :
    s.portFull p = true := decide_eq_true h

/-- A frame that has a command is that command's request. -/
theorem requestParts_of_encode {c : Instr} {p : PortId} {code : Byte} {payload : List Byte}
    (h : encodeRequest c = some (p, code, payload)) : ∃ owner, requestParts c = some (p, code, owner) := by
  cases c <;> cases h <;> exact ⟨_, rfl⟩

/-- Settles O8: the port is looked at before the frame. -/
theorem fullPortCountsAnOverrun : Obligations.FullPortCountsAnOverrun := by
  intro s p held room
  have full := portFull_of_room room
  refine ⟨fun c code payload h => ?_, ?_, fun f complete => ⟨?_, ?_⟩⟩
  · obtain ⟨owner, parts⟩ := requestParts_of_encode h
    have h1 : c ≠ .reset := by rintro rfl; cases parts
    have h2 : c ≠ .resetRelease := by rintro rfl; cases parts
    rw [exec_effect c s h1 h2, if_neg (by simp [held]), effect, parts]
    simp [serve, full, State.overrun, satAdd]
  all_goals
    refine exec_happens rfl (by simp) (by simp) held ?_
    simp [eventEffect, State.completeFrame, State.overrun, satAdd, *]

/-! ### Frames that reach no owner, R165 and R166 -/

theorem completeFrame_some {s : State} {p : PortId} {f : RawFrame} {reply : FrameVerdict → Option (Byte × Status)} {code : Byte}
    {status : Status} (l : Listening s p) (complete : f.complete = true) (h : reply (judgeFrame p f) = some (code, status)) :
    s.completeFrame p f reply = s.respond p code status [] := by
  simp [State.completeFrame, complete, portFull_of_listening l, h]

/-- Settles O9: the judgement of the frame, in its order. -/
theorem framesWithoutOwnerAnswered : Obligations.FramesWithoutOwnerAnswered := by
  intro s p f l complete
  have answered {reply code status} (h : reply (judgeFrame p f) = some (code, status)) :
      s.completeFrame p f reply = s.respond p code status [] := completeFrame_some l complete h
  have bad (h : judgeFrame p f = .badFrame) : exec (.badFrame p f) s = .next (s.respond p 0xFF .badFrame []) :=
    exec_happens rfl (by simp) (by simp) l.1 (answered (by rw [h]; rfl))
  refine ⟨fun h => bad (by simp [judgeFrame, h]), fun h => bad (by simp [judgeFrame, h]), fun h0 h196 ok => ?_⟩
  have length : ¬(f.length = 0#8 ∨ 196 < f.length.toNat) := not_or.2 ⟨h0, Nat.not_lt.2 h196⟩
  refine ⟨fun unknown => ?_, fun known none' => bad ?_⟩
  · refine exec_happens rfl (by simp) (by simp) l.1 (answered ?_)
    simp [judgeFrame, length, ok, unknown, unknownRequestReply]
  · simp only [judgeFrame, if_neg length, ok, known, none']
    rfl

/-- Settles O10: the gap timer runs after any part of a frame but the whole. -/
theorem gapTimeoutsCounted : Obligations.GapTimeoutsCounted := by
  refine ⟨fun s p received held hunting partial' => ?_, fun s received held hunting partial' => ?_⟩
  · refine exec_happens rfl (by simp) (by simp) held ?_
    simp only [eventEffect, State.gapTimeout]
    rw [hunting, if_pos (gapRunsAfter_partial received partial')]
    rfl
  · refine exec_happens rfl (by simp) (by simp) held ?_
    simp only [eventEffect, State.cabinetFrameError]
    rw [hunting, if_pos (gapRunsAfter_partial received partial')]
    rfl

end Sys2Proof.Proofs.Stepping
end

section
/-! The frame that a request or a cabinet message spells is judged to be it (R1, R165, R166, R169, R170, R172, R177). -/

namespace Sys2Proof.Proofs.FramesDecode

open Sys2Proof.Machine Sys2Proof.Laws

theorem toNat_length {payload : List Byte} (h : payload.length ≤ 195) :
    (BitVec.ofNat 8 (payload.length + 1)).toNat = payload.length + 1 := by
  rw [BitVec.toNat_ofNat]
  omega

/-- Code and payload stand in front of the check. -/
theorem content_requestFrame (code : Byte) {payload : List Byte} (h : payload.length ≤ 195) :
    (requestFrame code payload).content = code :: payload := by
  simp only [RawFrame.content, requestFrame, toNat_length h]
  simp

theorem checkOk_requestFrame (code : Byte) {payload : List Byte} (h : payload.length ≤ 195) :
    (requestFrame code payload).checkOk = true := by
  rw [RawFrame.checkOk, content_requestFrame code h]
  simp only [requestFrame, toNat_length h]
  simp

theorem complete_requestFrame (code : Byte) {payload : List Byte} (h : payload.length ≤ 195) :
    (requestFrame code payload).complete = true := by
  simp only [RawFrame.complete, requestFrame, toNat_length h]
  simp [length_toBytes]

/-- R166, order 6: a frame of the catalogue is handed to its owner. -/
theorem judgeFrame_requestFrame {p : PortId} {code : Byte} {payload : List Byte} {i : Instr} (len : payload.length ≤ 195)
    (known : acceptsCode p code.toNat = true) (spelt : requestOf p code.toNat payload = some i) :
    (requestFrame code payload).complete = true ∧ judgeFrame p (requestFrame code payload) = .request i := by
  refine ⟨complete_requestFrame code len, ?_⟩
  have length : ¬((requestFrame code payload).length = 0#8 ∨ 196 < (requestFrame code payload).length.toNat) := by
    have := toNat_length len
    refine not_or.2 ⟨fun h => ?_, ?_⟩
    · rw [show (BitVec.ofNat 8 (payload.length + 1)) = 0#8 from h] at this
      simp at this
    · show ¬196 < (BitVec.ofNat 8 (payload.length + 1)).toNat
      omega
  have first : byteAt (requestFrame code payload).rest 0 = code := rfl
  unfold judgeFrame
  rw [if_neg length, checkOk_requestFrame code len, first, known, content_requestFrame code len, List.drop_one, List.tail_cons,
    spelt]
  rfl

/-! ### Operands read back -/

theorem ofNat_field32 (v : BitVec 32) : BitVec.ofNat 32 (ofBytes (toBytes 4 v.toNat)) = v := by
  rw [ofBytes_toBytes, Nat.mod_eq_of_lt (v.isLt.trans_eq (by norm_num)), BitVec.ofNat_toNat, BitVec.setWidth_eq]

theorem ofNat_field16 (v : BitVec 16) : BitVec.ofNat 16 (ofBytes (toBytes 2 v.toNat)) = v := by
  rw [ofBytes_toBytes, Nat.mod_eq_of_lt (v.isLt.trans_eq (by norm_num)), BitVec.ofNat_toNat, BitVec.setWidth_eq]

theorem ofNat_field48 (v : BitVec 48) : BitVec.ofNat 48 (ofBytes (toBytes 6 v.toNat)) = v := by
  rw [ofBytes_toBytes, Nat.mod_eq_of_lt (v.isLt.trans_eq (by norm_num)), BitVec.ofNat_toNat, BitVec.setWidth_eq]

theorem refAt_append (front : List Byte) (ref : Vector Byte 12) : refAt (front ++ ref.toList) front.length = ref := by
  refine Vector.ext fun i hi => ?_
  simp [refAt, byteAt]

theorem requestOf_topup (n amount : BitVec 32) :
    requestOf .settlement 0x11 (toBytes 4 n.toNat ++ toBytes 4 amount.toNat) = some (.topup n amount) :=
  congrArg some (congrArg₂ Instr.topup (ofNat_field32 n) (ofNat_field32 amount))

theorem requestOf_arm (o : Byte) (hold : BitVec 32) (plan cls : Byte) (ref : Vector Byte 12) :
    requestOf .settlement 0x10 (o :: toBytes 4 hold.toNat ++ [plan, cls] ++ ref.toList) = some (.arm o hold plan cls ref) := by
  have len : (o :: toBytes 4 hold.toNat ++ [plan, cls] ++ ref.toList).length = 19 := by simp [length_toBytes]
  have hold' : fieldAt (o :: toBytes 4 hold.toNat ++ [plan, cls] ++ ref.toList) 1 4 = ofBytes (toBytes 4 hold.toNat) := rfl
  have ref' : refAt (o :: toBytes 4 hold.toNat ++ [plan, cls] ++ ref.toList) 7 = ref :=
    refAt_append (o :: toBytes 4 hold.toNat ++ [plan, cls]) ref
  simp only [requestOf, len, if_true, hold', ref', ofNat_field32]
  rfl

theorem requestOf_writePlan (plan : Byte) (fee idle : BitVec 32) (grace count : Byte) (bands : List Byte) :
    requestOf .settlement 0x16 (plan :: toBytes 4 fee.toNat ++ toBytes 4 idle.toNat ++ [grace, count] ++ bands) =
      some (.writePlan plan fee idle grace count bands) := by
  have long : 11 ≤ (plan :: toBytes 4 fee.toNat ++ toBytes 4 idle.toNat ++ [grace, count] ++ bands).length := by
    simp only [List.length_append, List.length_cons, length_toBytes]
    omega
  have fee' : fieldAt (plan :: toBytes 4 fee.toNat ++ toBytes 4 idle.toNat ++ [grace, count] ++ bands) 1 4 =
      ofBytes (toBytes 4 fee.toNat) := rfl
  have idle' : fieldAt (plan :: toBytes 4 fee.toNat ++ toBytes 4 idle.toNat ++ [grace, count] ++ bands) 5 4 =
      ofBytes (toBytes 4 idle.toNat) := rfl
  simp only [requestOf, if_pos long, fee', idle', ofNat_field32]
  rfl

theorem requestOf_moduleService (m direction : Byte) (h : direction ≠ 1#8) :
    requestOf .site 0x36 [m, direction] = some (.moduleServiceOut m direction) :=
  congrArg some (if_neg h)

theorem requestOf_readCounters (clear part : Byte) (h : clear ≠ 1#8) :
    requestOf .site 0x3A [clear, part] = some (.readCounters clear part) :=
  congrArg some (if_neg h)

/-- R169, R170: what a request spells stands for it; its payload fits a frame and its port knows its code. -/
theorem requestOf_encodeRequest {i : Instr} {p : PortId} {code : Byte} {payload : List Byte} (wf : i.wellFormed = true)
    (h : encodeRequest i = some (p, code, payload)) :
    payload.length ≤ 195 ∧ acceptsCode p code.toNat = true ∧ requestOf p code.toNat payload = some i := by
  cases i with
  | arm o hold plan cls ref => cases h; exact ⟨by simp [length_toBytes], rfl, requestOf_arm o hold plan cls ref⟩
  | topup n amount => cases h; exact ⟨by simp [length_toBytes], rfl, requestOf_topup n amount⟩
  | stop n => cases h; exact ⟨by simp [length_toBytes], rfl, congrArg some (congrArg Instr.stop (ofNat_field32 n))⟩
  | releaseClosure n =>
    cases h; exact ⟨by simp [length_toBytes], rfl, congrArg some (congrArg Instr.releaseClosure (ofNat_field32 n))⟩
  | writePlan plan fee idle grace count bands =>
    cases h
    have short : bands.length ≤ 184 := of_decide_eq_true wf
    exact ⟨by simp [length_toBytes]; omega, rfl, requestOf_writePlan plan fee idle grace count bands⟩
  | setCap cap validity =>
    cases h
    exact ⟨by simp [length_toBytes], rfl, congrArg some (congrArg₂ Instr.setCap (ofNat_field16 cap) (ofNat_field16 validity))⟩
  | timeRef ref => cases h; exact ⟨by simp [length_toBytes], rfl, congrArg some (congrArg Instr.timeRef (ofNat_field48 ref))⟩
  | configWrite item index value =>
    cases h
    exact ⟨by simp [length_toBytes], rfl, congrArg some (congrArg (Instr.configWrite item index) (ofNat_field32 value))⟩
  | moduleServiceOut m direction => cases h; exact ⟨by simp, rfl, requestOf_moduleService m direction (bne_iff_ne.1 wf)⟩
  | readCounters clear part => cases h; exact ⟨by simp, rfl, requestOf_readCounters clear part (bne_iff_ne.1 wf)⟩
  | readStatus p => cases h; cases p <;> exact ⟨by simp, rfl, rfl⟩
  | swapNotices p => cases h; cases p <;> exact ⟨by simp, rfl, rfl⟩
  | _ => cases h <;> exact ⟨by simp, rfl, rfl⟩

/-! ### The cabinet's messages, R177 -/

theorem moduleOfByte_ofNat (m : ModuleNo) : moduleOfByte (BitVec.ofNat 8 m.val) = some m := by revert m; decide

theorem routeOfByte_ofNat (o : Outlet) : routeOfByte (BitVec.ofNat 8 o.val) = some (some o) := by revert o; decide

theorem cabinetMessageOf_encodeCabinet {i : Instr} {code : Byte} {payload : List Byte} (h : encodeCabinet i = some (code, payload)) :
    (payload.length = 1 ∨ payload.length = 2) ∧ cabinetMessageOf code.toNat payload = some i := by
  cases i with
  | confirm m route =>
    cases h
    refine ⟨.inr rfl, ?_⟩
    cases route with
    | none => simp [cabinetMessageOf, moduleOfByte_ofNat, routeOfByte]
    | some o => simp [cabinetMessageOf, moduleOfByte_ofNat, routeOfByte_ofNat]
  | faultOn m => cases h; exact ⟨.inl rfl, congrArg (Option.map _) (moduleOfByte_ofNat m)⟩
  | faultOff m => cases h; exact ⟨.inl rfl, congrArg (Option.map _) (moduleOfByte_ofNat m)⟩
  | _ => cases h

theorem judgeCabinet_requestFrame {code : Byte} {payload : List Byte} {i : Instr} (len : payload.length = 1 ∨ payload.length = 2)
    (spelt : cabinetMessageOf code.toNat payload = some i) :
    (requestFrame code payload).complete = true ∧ judgeCabinet (requestFrame code payload) = .message i := by
  have short : payload.length ≤ 195 := by omega
  have length : (requestFrame code payload).length = 2#8 ∨ (requestFrame code payload).length = 3#8 := by
    rcases len with h | h
    · exact .inl (by simp [requestFrame, h])
    · exact .inr (by simp [requestFrame, h])
  have first : byteAt (requestFrame code payload).rest 0 = code := rfl
  refine ⟨complete_requestFrame code short, ?_⟩
  unfold judgeCabinet
  rw [if_neg (by tauto), checkOk_requestFrame code short, first, content_requestFrame code short, List.drop_one, List.tail_cons,
    spelt]
  rfl

/-- Settles O52: requests by `requestOf_encodeRequest`, the cabinet's messages by `cabinetMessageOf_encodeCabinet`. -/
theorem framesDecodeToTheirCommands : Obligations.FramesDecodeToTheirCommands := by
  refine ⟨fun i p code payload wf h => ?_, fun i code payload h => ?_⟩
  · obtain ⟨len, known, spelt⟩ := requestOf_encodeRequest wf h
    exact judgeFrame_requestFrame len known spelt
  · obtain ⟨len, spelt⟩ := cabinetMessageOf_encodeCabinet h
    exact judgeCabinet_requestFrame len spelt

end Sys2Proof.Proofs.FramesDecode
end

section
/-! What the reads answer, READ_COUNTERS, and the requests of the tariff store, the closure queue, the notices and the cap target. -/

namespace Sys2Proof.Proofs.Requests

open Sys2Proof.Machine Sys2Proof.Safety Sys2Proof.Laws
open Sys2Proof.Proofs.Stepping Sys2Proof.Proofs.LedgerWriters

/-! ### READ_COUNTERS, R171 -/

theorem answerCounters_refused {s : State} {clear part : Nat} (h : 1 < clear ∨ 3 < part ∨ (clear = 1 ∧ part ≠ 0)) :
    s.answerCounters clear part = s.answer .badValue := if_pos h

theorem answerCounters_part {s : State} {part : Nat} (low : 1 ≤ part) (high : part ≤ 3) :
    s.answerCounters 0 part = s.answerPart part := by
  rw [State.answerCounters, if_neg (by omega), if_neg (by omega)]

theorem meter_clearCounters (s : State) (o : Outlet) : s.clearCounters.meter o = { s.meter o with pulses := 0, runts := 0, stray := 0 } := by
  simp [State.meter, State.clearCounters, Meter.cleared]

theorem link_clearCounters (s : State) (o : Outlet) : s.clearCounters.link o = { s.link o with discards := 0 } := by
  simp [State.link, State.clearCounters, LineController.cleared]

theorem port_clearCounters (s : State) (p : PortId) : s.clearCounters.port p = { s.port p with gaps := 0, overruns := 0 } := by
  cases p <;> rfl

theorem shortfalls_clearCounters (s : State) (o : Outlet) : s.clearCounters.pool.shortfalls[o] = 0 := by
  simp [State.clearCounters, ModulePool.cleared]

theorem port_takeSnapshot (s : State) (p : PortId) : s.takeSnapshot.port p = s.port p := by cases p <;> rfl

/-- Settles O11: the parts are answered from the snapshot; the counters are cleared after it is taken. -/
theorem countersReadAndCleared : Obligations.CountersReadAndCleared := by
  intro s l
  refine ⟨?_, fun part low high => ?_, ⟨s.takeSnapshot.clearCounters, ?_, rfl, meter_clearCounters s.takeSnapshot,
    link_clearCounters s.takeSnapshot, rfl, rfl, rfl, shortfalls_clearCounters s.takeSnapshot, fun p => ?_, ?_⟩,
    fun clear part refused => ?_, fun part ne => ?_⟩
  · exact exec_answer (a := s.takeSnapshot.answer .ok (s.counters.part 0)) rfl l rfl
  · exact exec_answer (a := s.answerPart part.toNat) rfl l (answerCounters_part low high)
  · exact exec_answer (a := s.takeSnapshot.clearCounters.answer .ok (s.counters.part 0)) rfl l rfl
  · rw [port_clearCounters, port_takeSnapshot]
  · unfold State.clearCounters State.takeSnapshot; rfl
  · refine exec_answer (a := s.answer .badValue) rfl l (answerCounters_refused ?_)
    omega
  · have nonzero : part.toNat ≠ 0 := fun h => ne (BitVec.eq_of_toNat_eq h)
    exact exec_answer (a := s.answer .badValue) rfl l (answerCounters_refused (.inr (.inr ⟨rfl, nonzero⟩)))

/-! ### The reads -/

theorem answerQuery_none {s : State} {b : Byte} {o : Outlet} (hb : b.toNat = o.val) (vacant : s.slot o = none) :
    s.answerQuery b = s.answer .empty := by
  simp only [State.answerQuery, outletOf_eq_some hb, vacant]

theorem answerQuery_some {s : State} {b : Byte} {o : Outlet} {ses : Session} (hb : b.toNat = o.val) (h : s.slot o = some ses) :
    s.answerQuery b = s.answer .ok (sessionViewLayout ses o s.clock.elapsed) := by
  simp only [State.answerQuery, outletOf_eq_some hb, h, view_session]

/-- Settles O12: each read by its owner; the layouts by the lemmas that tie them to the payloads. -/
theorem readsChangeNothingElse : Obligations.ReadsChangeNothingElse := by
  refine ⟨fun s p l => exec_answer (a := s.answer .ok s.statusPayload) rfl l rfl, fun s b l => ⟨fun high => ?_, fun o hb => ⟨fun vacant => ?_, fun ses h => ?_⟩⟩,
    fun s item index l => ⟨fun unknown => ?_, fun r known => ⟨fun unset => ?_, fun v set' => ?_⟩⟩, fun s l => ?_,
    fun s b l => ⟨fun high => ?_, fun o hb => ?_⟩, rfl, rfl, rfl, rfl, rfl, fun a b x y ooc r => rfl⟩
  · exact exec_answer rfl l (a := s.answer .badValue) (by simp only [State.answerQuery, outletOf_eq_none high])
  · exact exec_answer (a := s.answer .empty) rfl l (answerQuery_none hb vacant)
  · exact exec_answer (a := s.answer .ok (sessionViewLayout ses o s.clock.elapsed)) rfl l
      (answerQuery_some hb h)
  · exact exec_answer rfl l (a := s.answer .badValue) (by simp only [State.answerConfigRead, unknown])
  · exact exec_answer rfl l (a := s.answer .ok (0 :: toBytes 4 0)) (by simp only [State.answerConfigRead, known, unset])
  · exact exec_answer rfl l (a := s.answer .ok (1 :: toBytes 4 v)) (by simp only [State.answerConfigRead, known, set'])
  · exact exec_answer rfl l (a := s.answer .ok (siteLayout s)) (by rw [sitePayload_eq])
  · exact exec_answer rfl l (a := s.answer .badValue) (by simp only [State.answerReadOutlet, outletOf_eq_none high])
  · exact exec_answer rfl l (a := s.answer .ok (outletLayout s o))
      (by simp only [State.answerReadOutlet, outletOf_eq_some hb, outletPayload_eq])

/-! ### The tariff store, R34 and R36 -/

theorem startsRise_of_wellFormed {bands : List Band} (h : bandsWellFormed bands = true) : startsRise bands = true := by
  simp only [bandsWellFormed, Bool.and_eq_true] at h
  exact h.1.2

/-- Settles O13: READ_PLAN by its owner, the order of the bands by well-formedness. -/
theorem planRead : Obligations.PlanRead := by
  refine ⟨fun s b l => ⟨fun high => ?_, fun n hb => ⟨?_, fun formed => ?_⟩⟩, by decide⟩
  · exact exec_answer rfl l (a := s.answer .badValue) (by simp only [State.answerReadPlan, planOf_eq_none high])
  · exact exec_answer rfl l (a := s.answer .ok (s.plan n).payload) (by simp only [State.answerReadPlan, planOf_eq_some hb])
  · exact pairwise_of_startsRise _ (startsRise_of_wellFormed formed)

theorem answerWritePlan_some {s : State} {b : Byte} {n : Fin 8} {fee idle grace count : Nat} {bands : List Byte}
    (hb : planOf b = some n) : s.answerWritePlan b fee idle grace count bands =
      if (count = 0 ∨ 6 < count ∨ bands.length ≠ 6 * count) ∨ (Config.maxFee < fee ∨ Config.maxFee < idle ∨ Config.maxGrace < grace) ∨
        bandsWellFormed (bandsOf count bands) = false then s.answer .badValue
      else (s.setPlan n { valid := true, sessionFee := fee, idleFee := idle, grace := grace, bands := bandsOf count bands }).answer
        .ok := by
  simp only [State.answerWritePlan, hb]
  by_cases h1 : count = 0 ∨ 6 < count ∨ bands.length ≠ 6 * count
  · rw [if_pos h1, if_pos (.inl h1)]
  by_cases h2 : Config.maxFee < fee ∨ Config.maxFee < idle ∨ Config.maxGrace < grace
  · rw [if_neg h1, if_pos h2, if_pos (.inr (.inl h2))]
  by_cases h3 : bandsWellFormed (bandsOf count bands) = true
  · rw [if_neg h1, if_neg h2, if_pos h3, if_neg (by simp [h1, h2, h3])]
  · rw [if_neg h1, if_neg h2, if_neg h3, if_pos (.inr (.inr (Bool.eq_false_iff.2 h3)))]

/-- Settles O15: the plan number first, then the checks of WRITE_PLAN as one condition. -/
theorem planWritten : Obligations.PlanWritten := by
  intro s b fee idle grace count bands l
  refine ⟨fun refused => exec_answer rfl l (a := s.answer .badValue) ?_, fun n hb low high len hfee hidle hgrace formed => ?_⟩
  · cases hb : planOf b with
    | none => simp only [State.answerWritePlan, hb]
    | some n =>
      have small : ¬8 ≤ b.toNat := fun h => by rw [planOf_eq_none h] at hb; cases hb
      rw [answerWritePlan_some hb, if_pos]
      rcases refused with h | h | h | h | h | h | h | h
      · exact absurd h small
      · exact .inl (.inl h)
      · exact .inl (.inr (.inl h))
      · exact .inl (.inr (.inr h))
      · exact .inr (.inl (.inl h))
      · exact .inr (.inl (.inr (.inl h)))
      · exact .inr (.inl (.inr (.inr h)))
      · exact .inr (.inr h)
  · refine exec_answer (a := (s.setPlan n
      { valid := true
        sessionFee := fee.toNat
        idleFee := idle.toNat
        grace := grace.toNat
        bands := bandsOf count.toNat bands }).answer .ok) rfl l ((answerWritePlan_some (planOf_eq_some hb)).trans (if_neg ?_))
    rintro ((h | h | h) | (h | h | h) | h)
    · omega
    · omega
    · exact h len
    · exact absurd h (Nat.not_lt.2 hfee)
    · exact absurd h (Nat.not_lt.2 hidle)
    · exact absurd h (Nat.not_lt.2 hgrace)
    · rw [formed] at h; cases h

/-! ### Closures and notices -/

theorem answerRelease_cons {s : State} {r : ClosureRecord} {rest : List ClosureRecord} (h : s.closures = r :: rest) (number : Nat) :
    s.answerRelease number = if number = r.number then
      ({ s with closures := rest } : State).admitWaiter.answer .ok
        (toBytes 1 ({ s with closures := rest } : State).admitWaiter.closures.length)
    else s.answer .mismatch (toBytes 4 r.number) := by
  simp only [State.answerRelease, h]

theorem admitWaiter_none {s : State} (h : ∀ o ses q n, s.slot o = some ses → ses.state ≠ .closedWait q n) : s.admitWaiter = s := by
  rcases admitWaiter_cases s with ⟨_, e⟩ | ⟨o, ses, q, n, hs, st, _⟩
  · exact e
  · exact absurd st (h o ses q n hs)

/-- R157, R160: the waiting session with the least stamp, of equal stamps the one with the lower outlet, is admitted. -/
theorem admitWaiter_first {s : State} {o : Outlet} {ses : Session} {q : ClosureRecord} {n : Nat} (hs : s.slot o = some ses)
    (st : ses.state = .closedWait q n) (first : ∀ o' ses' q' n', s.slot o' = some ses' → ses'.state = .closedWait q' n' →
      n < n' ∨ (n = n' ∧ o ≤ o')) :
    s.admitWaiter = (({ s with closures := s.closures ++ [q] } : State).raise .closureReady).setSlot o none := by
  have found : firstWaiter s.waiters = some ⟨o, n, q⟩ := by
    refine firstWaiter_eq (waiter_mem s hs st) (waiters_pairwise s) fun v hv => ?_
    obtain ⟨ses', hs', st'⟩ := mem_waiters s hv
    exact first _ _ _ _ hs' st'
  simp only [State.admitWaiter, found]

/-- Settles O17: the head of the queue, then the waiting set. -/
theorem closureReleased : Obligations.ClosureReleased := by
  intro s number l
  refine ⟨fun empty => ?_, fun r rest h => ⟨fun ne => ?_, fun eq => ⟨fun none' => ?_, fun o ses q n hs st first => ?_⟩⟩⟩
  · exact exec_answer rfl l (a := s.answer .empty) (by simp only [State.answerRelease, empty])
  · exact exec_answer (a := s.answer .mismatch (toBytes 4 r.number)) rfl l ((answerRelease_cons h _).trans (if_neg ne))
  · refine exec_answer rfl l (a := ({ s with closures := rest } : State).answer .ok (toBytes 1 rest.length)) ?_
    rw [answerRelease_cons h, if_pos eq, admitWaiter_none (s := { s with closures := rest }) none']
  · refine exec_answer rfl l (a := ((({ s with closures := rest ++ [q] } : State).raise .closureReady).setSlot o none).answer .ok
      (toBytes 1 (rest.length + 1))) ?_
    rw [answerRelease_cons h, if_pos eq, admitWaiter_first (s := { s with closures := rest }) hs st first]
    simp

theorem settlement_ne_empty (n : SettlementNotices) : n ≠ .empty ↔ n.closureReady = true ∨ n.charging ≠ 0 ∨ n.suspended ≠ 0 ∨
    n.stopping ≠ 0 ∨ n.fundsLow ≠ 0 ∨ n.strayEnergy ≠ 0 := by
  obtain ⟨ready, charging, suspended, stopping, low, stray⟩ := n
  simp only [SettlementNotices.empty, ne_eq, SettlementNotices.mk.injEq]
  cases ready <;> simp
  tauto

theorem site_ne_empty (n : SiteNotices) : n ≠ .empty ↔ n.capExpired = true ∨ n.moduleFault ≠ 0 ∨ n.timeHoldover = true ∨
    n.timeStepped = true ∨ n.overdraw ≠ 0 ∨ n.unreachable ≠ 0 ∨ n.openingSkipped = true := by
  obtain ⟨expired, fault, holdover, stepped, overdraw, unreachable, skipped⟩ := n
  simp only [SiteNotices.empty, ne_eq, SiteNotices.mk.injEq]
  cases expired <;> cases holdover <;> cases stepped <;> cases skipped <;> simp
  tauto

/-- R164: the attention line follows the set. -/
theorem attention_iff (s : State) (p : PortId) : s.attention p = true ↔ s.held = false ∧ s.noticesEmpty p = false := by
  simp [State.attention]

/-- Settles O18: the swap by its owner; the attention line by what an empty set is. -/
theorem noticesSwapped : Obligations.NoticesSwapped := by
  intro s
  refine ⟨fun l => ?_, fun l => ?_, fun p t l h => ?_, ?_, ?_⟩
  · exact (exec_answer rfl l rfl).trans (by rw [← payload_settlement]; rfl)
  · exact (exec_answer rfl l rfl).trans (by rw [← payload_site]; rfl)
  · rw [exec_answer rfl l rfl] at h
    cases h
    cases p <;> simp [State.attention, State.noticesEmpty, State.answerSwap, State.answer]
  · rw [attention_iff, ← settlement_ne_empty, State.noticesEmpty, beq_eq_false_iff_ne]
  · rw [attention_iff, ← site_ne_empty, State.noticesEmpty, beq_eq_false_iff_ne]

/-! ### The cap target, R116 and R117 -/

/-- Settles O42: SET_CAP by its owner; the target lapses when its expiry has passed. -/
theorem capTargetSetAndLapses : Obligations.CapTargetSetAndLapses := by
  refine ⟨fun s cap validity l => exec_answer (a := s.answerSetCap cap.toNat validity.toNat) rfl l rfl, fun s t held target passed => ?_⟩
  refine exec_happens rfl (by simp) (by simp) held ?_
  simp only [eventEffect, State.targetExpiry, target, if_pos passed]
  rfl

end Sys2Proof.Proofs.Requests
end

section
/-! Park Mode Control: the configuration written and checked, the park started and stopped (R5, R8 to R15). -/

namespace Sys2Proof.Proofs.ParkControl

open Sys2Proof.Machine Sys2Proof.Safety Sys2Proof.Laws
open Sys2Proof.Proofs.Stepping

/-! ### CONFIG_WRITE and CONFIG_READ, R5 and R7 -/

theorem parkItems_read_write (c : ParkItems) (v : Nat) (i : ParkItem) : (c.write v i).read i = some v := by cases i <;> rfl

theorem parkItems_read_write_other (c : ParkItems) (v : Nat) {i j : ParkItem} (ne : j ≠ i) : (c.write v i).read j = c.read j := by
  cases i <;> cases j <;> first | rfl | exact absurd rfl ne

theorem toNat_of_within {v : Nat} (h : within 0 1 v = true) : (v == 1).toNat = v := by
  have : v ≤ 1 := (of_decide_eq_true h).2
  interval_cases v <;> rfl

theorem outletItems_read_write (c : OutletItems) {v : Nat} {i : OutletItem} (h : i.inRange v = true) :
    (c.write v i).read i = some v := by
  cases i with
  | present => exact congrArg some (toNat_of_within h)
  | _ => rfl

theorem outletItems_read_write_other (c : OutletItems) (v : Nat) {i j : OutletItem} (ne : j ≠ i) :
    (c.write v i).read j = c.read j := by
  cases i <;> cases j <;> first | rfl | exact absurd rfl ne

theorem moduleItems_read_write (c : ModuleItems) {v : Nat} {i : ModuleItem} (h : i.inRange v = true) :
    (c.write v i).read i = some v := by
  cases i with
  | inService => exact congrArg some (toNat_of_within h)
  | reach =>
    have : v ≤ 65535 := (of_decide_eq_true h).2
    exact congrArg some ((BitVec.toNat_ofNat _ _).trans (Nat.mod_eq_of_lt (by omega)))

theorem moduleItems_read_write_other (c : ModuleItems) (v : Nat) {i j : ModuleItem} (ne : j ≠ i) :
    (c.write v i).read j = c.read j := by
  cases i <;> cases j <;> first | rfl | exact absurd rfl ne

theorem read_write (c : ModeControl) {v : Nat} {r : ConfigRef} (h : r.inRange v = true) : (c.write v r).read r = some v := by
  cases r with
  | park i => exact parkItems_read_write c.park v i
  | outlet i o => simpa [ModeControl.write, ModeControl.read] using outletItems_read_write c.outlets[o] h
  | module i m => simpa [ModeControl.write, ModeControl.read] using moduleItems_read_write c.modules[m] h

theorem read_write_other (c : ModeControl) (v : Nat) {r r' : ConfigRef} (ne : r' ≠ r) : (c.write v r).read r' = c.read r' := by
  cases r with
  | park i =>
    cases r' with
    | park j => exact parkItems_read_write_other c.park v fun e => ne (e ▸ rfl)
    | _ => rfl
  | outlet i o =>
    cases r' with
    | outlet j p =>
      by_cases h : o = p
      · subst h
        simpa [ModeControl.write, ModeControl.read] using
          outletItems_read_write_other c.outlets[o] v (fun e => ne (e ▸ rfl) : j ≠ i)
      · have : (c.outlets.set o (c.outlets[o].write v i))[p] = c.outlets[p] :=
          Vector.getElem_set_ne _ _ fun e => h (Fin.ext e)
        simp only [ModeControl.write, ModeControl.read, this]
    | _ => rfl
  | module i m =>
    cases r' with
    | module j k =>
      by_cases h : m = k
      · subst h
        simpa [ModeControl.write, ModeControl.read] using
          moduleItems_read_write_other c.modules[m] v (fun e => ne (e ▸ rfl) : j ≠ i)
      · have : (c.modules.set m (c.modules[m].write v i))[k] = c.modules[k] :=
          Vector.getElem_set_ne _ _ fun e => h (Fin.ext e)
        simp only [ModeControl.write, ModeControl.read, this]
    | _ => rfl

theorem mode_write (c : ModeControl) (v : Nat) (r : ConfigRef) :
    (c.write v r).mode = c.mode ∧ (c.write v r).cycleTimer = c.cycleTimer := by cases r <;> exact ⟨rfl, rfl⟩

theorem not_operating {s : State} (h : s.control.mode = .maintenance) : s.control.mode ≠ .operating := by rw [h]; decide

/-- Settles O19: the refusals in their order; what is written is read back, and nothing else changes. -/
theorem configurationWritten : Obligations.ConfigurationWritten := by
  intro s item index value l
  refine ⟨fun mode => ?_, fun mode unknown => ?_, fun r mode known => ⟨fun out => ?_, fun within => ?_⟩⟩
  · exact exec_answer (a := s.answer .wrongMode) rfl l (if_pos mode)
  · exact exec_answer (a := s.answer .badValue) rfl l
      (by simp only [State.answerConfigWrite, if_neg (not_operating mode), unknown])
  · exact exec_answer (a := s.answer .badValue) rfl l
      (by simp only [State.answerConfigWrite, if_neg (not_operating mode), known, out]; rfl)
  · obtain ⟨mode', timer⟩ := mode_write s.control value.toNat r
    refine ⟨s.control.write value.toNat r, ?_, mode', timer, read_write _ within, fun r' ne => read_write_other _ _ ne⟩
    exact exec_answer (a := ({ s with control := s.control.write value.toNat r } : State).answer .ok) rfl l
      (by simp only [State.answerConfigWrite, if_neg (not_operating mode), known, within, if_true])

/-! ### The checks of START_PARK, R10 and R12 -/

/-- An entry of a numbered list fails, and every one before it passes. -/
def FirstFailing {n : Nat} (P : Fin n → Prop) (i : Fin n) : Prop := ¬P i ∧ ∀ k, k < i → P k

theorem firstFailing_unique {n : Nat} {P : Fin n → Prop} {i j : Fin n} (hi : FirstFailing P i) (hj : FirstFailing P j) : i = j := by
  rcases lt_trichotomy i j with h | h | h
  · exact absurd (hj.2 i h) hi.1
  · exact h
  · exact absurd (hi.2 j h) hj.1

/-- A search in rising order for what fails finds the first that fails, or nothing fails. -/
theorem find_failing {n : Nat} {l : List (Fin n)} (rising : l.Pairwise (· < ·)) (all : ∀ i, i ∈ l) {f : Fin n → Bool}
    {P : Fin n → Prop} (hf : ∀ i, f i = true ↔ ¬P i) :
    (l.find? f = none ∧ ∀ i, P i) ∨ ∃ i, l.find? f = some i ∧ FirstFailing P i := by
  cases h : l.find? f with
  | none =>
    refine .inl ⟨rfl, fun i => ?_⟩
    have := List.find?_eq_none.1 h i (all i)
    rwa [hf, not_not] at this
  | some i =>
    obtain ⟨_, fails, before⟩ := (find?_eq_some_least f l rising i).1 h
    refine .inr ⟨i, rfl, (hf i).1 fails, fun k lt => ?_⟩
    have := before k (all k) lt
    rwa [Bool.eq_false_iff, ne_eq, hf, not_not] at this

theorem powersSet_iff (c : ModeControl) :
    (c.park.moduleRating.isNone || c.park.siteRamp.isNone || c.park.fallbackCap.isNone) = true ↔ ¬PowersSet c := by
  unfold PowersSet
  cases c.park.moduleRating <;> cases c.park.siteRamp <;> cases c.park.fallbackCap <;> simp

theorem somePresent_iff (c : ModeControl) : (allOutlets.all fun o => !c.outlets[o].present) = true ↔ ¬SomePresent c := by
  simp [SomePresent, List.all_eq_true, mem_allOutlets]

theorem outletPasses_iff {c : ModeControl} (powers : PowersSet c) (o : Outlet) :
    (c.outlets[o].present && !c.outlets[o].valid (c.park.moduleRating.getD 0)) = true ↔ ¬OutletPasses c o := by
  obtain ⟨rating, hr⟩ := Option.isSome_iff_exists.1 powers.1
  unfold OutletPasses OutletItems.valid
  rw [hr]
  cases c.outlets[o].maximum <;> cases c.outlets[o].minimum <;> cases c.outlets[o].ramp <;> simp
  grind

theorem reachPresent_iff (c : ModeControl) (reach : OutletSet) :
    c.reachPresent reach = true ↔ ∀ o, OutletSet.has reach o = true → c.outlets[o].present = true := by
  simp [ModeControl.reachPresent, List.all_eq_true, mem_allOutlets, or_iff_not_imp_left]

theorem modulePasses_iff (c : ModeControl) (m : ModuleNo) :
    (c.modules[m].inService && (c.modules[m].reach == 0 || !c.reachPresent c.modules[m].reach)) = true ↔ ¬ModulePasses c m := by
  unfold ModulePasses
  rw [← reachPresent_iff]
  cases c.modules[m].inService <;> cases c.reachPresent c.modules[m].reach <;> simp

theorem outletReached_iff (c : ModeControl) (o : Outlet) :
    (c.outlets[o].present && !c.reached o) = true ↔ ¬OutletReached c o := by
  have reached : c.reached o = true ↔ ∃ m : ModuleNo, c.modules[m].inService = true ∧ OutletSet.has c.modules[m].reach o = true := by
    simp [ModeControl.reached, List.any_eq_true, mem_allModules]
  unfold OutletReached
  rw [← reached]
  cases c.outlets[o].present <;> cases c.reached o <;> simp

/-- R10: the checks in their order. -/
theorem failedCheck_cases (c : ModeControl) :
    (c.failedCheck = some (1, 0xFF) ∧ ¬PowersSet c) ∨
    (c.failedCheck = some (2, 0xFF) ∧ PowersSet c ∧ ¬SomePresent c) ∨
    (∃ o : Outlet, c.failedCheck = some (3, BitVec.ofNat 8 o.val) ∧ PowersSet c ∧ SomePresent c ∧ FirstFailing (OutletPasses c) o) ∨
    (∃ m : ModuleNo, c.failedCheck = some (4, BitVec.ofNat 8 m.val) ∧ PowersSet c ∧ SomePresent c ∧ (∀ o, OutletPasses c o) ∧
      FirstFailing (ModulePasses c) m) ∨
    (∃ o : Outlet, c.failedCheck = some (5, BitVec.ofNat 8 o.val) ∧ PowersSet c ∧ SomePresent c ∧ (∀ o, OutletPasses c o) ∧
      (∀ m, ModulePasses c m) ∧ FirstFailing (OutletReached c) o) ∨
    (c.failedCheck = some (6, 0xFF) ∧ PowersSet c ∧ SomePresent c ∧ (∀ o, OutletPasses c o) ∧ (∀ m, ModulePasses c m) ∧
      (∀ o, OutletReached c o) ∧ ¬CycleLongEnough c) ∨
    (c.failedCheck = none ∧ PowersSet c ∧ SomePresent c ∧ (∀ o, OutletPasses c o) ∧ (∀ m, ModulePasses c m) ∧
      (∀ o, OutletReached c o) ∧ CycleLongEnough c) := by
  unfold ModeControl.failedCheck
  by_cases h1 : PowersSet c
  swap
  · exact .inl ⟨if_pos ((powersSet_iff c).2 h1), h1⟩
  rw [if_neg fun h => (powersSet_iff c).1 h h1]
  by_cases h2 : SomePresent c
  swap
  · exact .inr (.inl ⟨if_pos ((somePresent_iff c).2 h2), h1, h2⟩)
  rw [if_neg fun h => (somePresent_iff c).1 h h2]
  rcases find_failing allOutlets_pairwise_lt mem_allOutlets (outletPasses_iff h1) with ⟨e, h3⟩ | ⟨o, e, h3⟩ <;> rw [e]
  swap
  · exact .inr (.inr (.inl ⟨o, rfl, h1, h2, h3⟩))
  simp only
  rcases find_failing allModules_pairwise_lt mem_allModules (modulePasses_iff c) with ⟨e, h4⟩ | ⟨m, e, h4⟩ <;> rw [e]
  swap
  · exact .inr (.inr (.inr (.inl ⟨m, rfl, h1, h2, h3, h4⟩)))
  simp only
  rcases find_failing allOutlets_pairwise_lt mem_allOutlets (outletReached_iff c) with ⟨e, h5⟩ | ⟨o, e, h5⟩ <;> rw [e]
  swap
  · exact .inr (.inr (.inr (.inr (.inl ⟨o, rfl, h1, h2, h3, h4, h5⟩))))
  simp only
  by_cases h6 : CycleLongEnough c
  · rw [if_neg (Nat.not_lt.2 h6)]
    exact .inr (.inr (.inr (.inr (.inr (.inr ⟨rfl, h1, h2, h3, h4, h5, h6⟩)))))
  · rw [if_pos (Nat.not_le.1 h6)]
    exact .inr (.inr (.inr (.inr (.inr (.inl ⟨rfl, h1, h2, h3, h4, h5, h6⟩)))))

theorem outletByte_inj (o p : Outlet) : BitVec.ofNat 8 o.val = BitVec.ofNat 8 p.val ↔ o = p := by revert o p; decide

theorem moduleByte_inj (m k : ModuleNo) : BitVec.ofNat 8 m.val = BitVec.ofNat 8 k.val ↔ m = k := by revert m k; decide

theorem eq_iff_firstFailing {n : Nat} {P : Fin n → Prop} {i : Fin n} (h : FirstFailing P i) (j : Fin n) :
    i = j ↔ ¬P j ∧ ∀ k, k < j → P k :=
  ⟨fun e => e ▸ h, fun hj => firstFailing_unique h hj⟩

/-- Settles O21: the six checks exclude one another by their order. -/
theorem configurationChecked : Obligations.ConfigurationChecked := by
  intro c
  rcases failedCheck_cases c with ⟨e, h1⟩ | ⟨e, h1, h2⟩ | ⟨o, e, h1, h2, h3⟩ | ⟨m, e, h1, h2, h3, h4⟩ | ⟨o, e, h1, h2, h3, h4, h5⟩ |
    ⟨e, h1, h2, h3, h4, h5, h6⟩ | ⟨e, h1, h2, h3, h4, h5, h6⟩ <;> rw [e]
  · simp [h1]
  · simp [h1, h2]
  · have fails : ¬∀ o, OutletPasses c o := fun h => h3.1 (h o)
    simp [h1, h2, fails, outletByte_inj, eq_iff_firstFailing h3]
  · have fails : ¬∀ m, ModulePasses c m := fun h => h4.1 (h m)
    simp [h1, h2, h3, fails, moduleByte_inj, eq_iff_firstFailing h4]
  · have fails : ¬∀ o, OutletReached c o := fun h => h5.1 (h o)
    simp [h1, h2, h3, h4, fails, outletByte_inj, eq_iff_firstFailing h5]
  · simp [h1, h2, h3, h4, h5, h6]
  · simp [h1, h2, h3, h4, h5, h6]

/-! ### START_PARK and STOP_PARK, R8 to R15 -/

/-- Settles O20: the refusals, and the park as `startUp` leaves it. -/
theorem parkStarted : Obligations.ParkStarted := by
  intro s l
  refine ⟨fun mode => ?_, fun mode => ⟨fun check subject failed => ?_, fun passes => ⟨s.startUp, ?_, rfl, rfl, rfl, ?_, ?_, ?_, rfl,
    rfl, rfl, ?_, ?_, ?_, ?_⟩⟩⟩
  · exact exec_answer (a := s.answer .already) rfl l (if_pos mode)
  · exact exec_answer (a := s.answer .invalidConfig [check, subject]) rfl l
      (by simp only [State.answerStartPark, if_neg (not_operating mode), failed])
  · exact exec_answer (a := s.startUp.answer .ok) rfl l
      (by simp only [State.answerStartPark, if_neg (not_operating mode), passes])
  · intro o; simp [State.link, State.startUp, OutletLink.started]
  · intro o; simp [State.exchange, State.startUp]
  · intro o; simp [State.record, State.startUp]
  · intro m
    simp [State.module, State.startUp, Module.setUp] <;> rfl
  all_goals simp only [State.startUp]

theorem anySlotHeld_eq_false {s : State} (h : ∀ o, s.slot o = none) : s.anySlotHeld = false := by
  simp [State.anySlotHeld, h]

theorem anyModuleMoving_eq_false {s : State} (h : ∀ m, (s.module m).state.assigned = none) : s.anyModuleMoving = false := by
  simp [State.anyModuleMoving, h]

theorem exchange_shutDown (s : State) (o : Outlet) : s.shutDown.exchange o = (s.exchange o).stopped (s.line.rx.isAssembling o) := by
  simp [State.exchange, State.shutDown]

/-- Settles O22: the refusals in their order, and the park as `shutDown` leaves it. -/
theorem parkStopped : Obligations.ParkStopped := by
  intro s l
  refine ⟨fun status refused => ?_, fun mode vacant still => ⟨s.shutDown, ?_, rfl, rfl, ?_, ?_, ?_, rfl, rfl, rfl, ?_⟩⟩
  · refine exec_answer (a := s.answer status) rfl l ?_
    unfold State.answerStopPark State.anySlotHeld State.anyModuleMoving
    cases hm : s.control.mode with
    | maintenance =>
      simp only [hm, firstOf, BEq.rfl] at refused
      cases refused
      rfl
    | operating =>
      cases hs : allOutlets.any fun o => (s.slot o).isSome <;> cases ha : allModules.any fun m => (s.module m).state.assigned.isSome <;>
        simp only [hm, hs, ha] at refused <;> cases refused <;> rfl
  · refine exec_answer (a := s.shutDown.answer .ok) rfl l ?_
    simp [State.answerStopPark, mode, anySlotHeld_eq_false vacant, anyModuleMoving_eq_false still]
  · intro o; simp [State.link, State.shutDown, OutletLink.stopped]
  · intro o
    rw [exchange_shutDown]
    exact ⟨rfl, rfl, rfl, by simp [Exchange.stopped, LineRx.isAssembling]⟩
  · intro o; simp [State.record, State.shutDown]
  · unfold State.shutDown; rfl

end Sys2Proof.Proofs.ParkControl
end

section
/-! The session counter (R39): the numbers held, and that 49 steps reach one that is not. -/

namespace Sys2Proof.Proofs.SessionCounter

open Sys2Proof.Machine Sys2Proof.Laws

theorem mem_heldNumbers {s : State} {n : Nat} :
    n ∈ s.heldNumbers ↔ (∃ p v, s.slot p = some v ∧ v.number = n) ∨ ∃ r ∈ s.closures, r.number = n := by
  simp only [State.heldNumbers, List.mem_append, List.mem_filterMap, List.mem_map, Option.map_eq_some_iff, mem_allOutlets, true_and]

/-- 16 slots and a queue of 32 hold 48 numbers. -/
theorem length_heldNumbers {s : State} (h : s.closures.length ≤ Config.closureRoom) : s.heldNumbers.length ≤ 48 := by
  have slots : (allOutlets.filterMap fun o => (s.slot o).map (·.number)).length ≤ 16 :=
    (List.length_filterMap_le _ _).trans (by decide)
  have queue : s.closures.length ≤ 32 := h
  rw [State.heldNumbers, List.length_append, List.length_map]
  omega

/-- R39: where the counter stands after some steps; past 2^32 − 1 it starts again from 1. -/
theorem iterate_nextNumber (n : Nat) : ∀ j : Nat, j ≤ max32 →
    nextNumber^[j] n = if n ≤ max32 ∧ max32 < n + j then n + j - max32 else n + j
  | 0, _ => by
    rw [if_neg (by omega)]
    rfl
  | j + 1, h => by
    rw [Function.iterate_succ_apply', iterate_nextNumber n j (by omega)]
    unfold nextNumber
    split_ifs <;> omega

/-- The first 49 steps reach 49 different numbers. -/
theorem iterate_nextNumber_injective (n : Nat) {i j : Nat} (hi : i < 49) (hj : j < 49)
    (e : nextNumber^[i + 1] n = nextNumber^[j + 1] n) : i = j := by
  have big : 100 < max32 := by decide
  rw [iterate_nextNumber n _ (by omega), iterate_nextNumber n _ (by omega)] at e
  split_ifs at e <;> omega

/-- R39: of 49 numbers not all are among 48. -/
theorem advanceNumber_reaches {taken : List Nat} (h : taken.length ≤ 48) (n : Nat) :
    ∃ k, k < 49 ∧ advanceNumber taken 49 n = nextNumber^[k + 1] n ∧ nextNumber^[k + 1] n ∉ taken ∧
      ∀ j, j < k → nextNumber^[j + 1] n ∈ taken := by
  rcases advanceNumber_spec taken 49 n with found | all
  · exact found
  have nodup : ((List.range 49).map fun j => nextNumber^[j + 1] n).Nodup :=
    List.Nodup.map_on (fun i hi j hj e =>
      iterate_nextNumber_injective n (List.mem_range.1 hi) (List.mem_range.1 hj) e) List.nodup_range
  have among : ((List.range 49).map fun j => nextNumber^[j + 1] n) ⊆ taken := by
    intro x hx
    obtain ⟨j, hj, rfl⟩ := List.mem_map.1 hx
    exact all j (List.mem_range.1 hj)
  have short := (List.subperm_of_subset nodup among).length_le
  rw [List.length_map, List.length_range] at short
  omega

theorem nextNumber_range (n : Nat) (h : n ≤ max32) : 1 ≤ nextNumber n ∧ nextNumber n ≤ max32 := by
  unfold nextNumber
  split_ifs with e
  · decide
  · exact ⟨Nat.succ_pos n, Nat.lt_of_le_of_ne h e⟩

theorem iterate_nextNumber_range (n : Nat) (h : n ≤ max32) : ∀ j : Nat, 1 ≤ nextNumber^[j + 1] n ∧ nextNumber^[j + 1] n ≤ max32
  | 0 => nextNumber_range n h
  | j + 1 => by
    rw [Function.iterate_succ_apply']
    exact nextNumber_range _ (iterate_nextNumber_range n h j).2

end Sys2Proof.Proofs.SessionCounter
end

section
/-! ARM (R39, R41, R42). -/

namespace Sys2Proof.Proofs.Arming

open Sys2Proof.Machine Sys2Proof.Safety Sys2Proof.Laws
open Sys2Proof.Proofs.Stepping Sys2Proof.Proofs.SessionCounter

/-! ### The refusals, R41 -/

theorem outletOf_eq (b : Byte) : outletOf b = if 15 < b.toNat then none else some (Fin.ofNat 16 b.toNat) := by
  unfold outletOf
  split
  next h => rw [if_neg (by omega)]; exact congrArg some (Fin.ext (Nat.mod_eq_of_lt h).symm)
  next h => rw [if_pos (by omega)]

theorem planOf_eq (b : Byte) : planOf b = if 7 < b.toNat then none else some (Fin.ofNat 8 b.toNat) := by
  unfold planOf
  split
  next h => rw [if_neg (by omega)]; exact congrArg some (Fin.ext (Nat.mod_eq_of_lt h).symm)
  next h => rw [if_pos (by omega)]

theorem pedestalReady_eq (s : State) (o : Outlet) : (!s.pedestalReady o) =
    ((s.link o).link != .online || (s.exchange o).heldReport.map (·.state) == some .fault) := by
  simp [State.pedestalReady, bne]

/-- R41: the first condition of the table that holds gives the answer; with none the session is created. -/
theorem answerArm_refused {s : State} {b plan cls : Byte} {hold : Nat} {ref : Vector Byte 12} {status : Status}
    (refused : firstOf
      [(s.control.mode != .operating, Status.wrongMode),
       (decide (15 < b.toNat) || !s.present (Fin.ofNat 16 b.toNat), .outletDown),
       (s.clock.sync == .unsynced, .noTime),
       ((s.slot (Fin.ofNat 16 b.toNat)).isSome, .outletBusy),
       (!s.pedestalReady (Fin.ofNat 16 b.toNat), .outletDown),
       (decide (7 < plan.toNat) || !(s.plan (Fin.ofNat 8 plan.toNat)).valid, .badPlan),
       (decide (2 < cls.toNat), .badValue),
       (decide (hold < s.control.park.minimumHold), .lowHold),
       (decide (999999 < hold), .overLimit)] = some status) : s.answerArm b hold plan cls ref = s.answer status := by
  unfold State.answerArm
  rw [outletOf_eq, planOf_eq]
  by_cases h1 : s.control.mode = .operating
  swap
  · simp only [bne_iff_ne.2 h1, firstOf] at refused
    cases refused
    exact if_pos h1
  simp only [h1, bne_self_eq_false, firstOf] at refused
  rw [if_neg (not_not.2 h1)]
  by_cases h2 : 15 < b.toNat
  · simp only [h2, decide_true, Bool.true_or, firstOf] at refused
    cases refused
    rw [if_pos h2]
  simp only [h2, decide_false, Bool.false_or] at refused
  rw [if_neg h2]
  simp only
  generalize Fin.ofNat 16 b.toNat = o at *
  cases h3 : !s.present o <;> simp only [h3, firstOf] at refused
  swap
  · cases refused; rfl
  by_cases h4 : s.clock.sync = .unsynced
  · simp only [h4, BEq.rfl, firstOf] at refused
    cases refused
    simp [h4]
  simp only [beq_eq_false_iff_ne.2 h4, firstOf] at refused
  cases h5 : (s.slot o).isSome <;> simp only [h5, firstOf] at refused
  swap
  · cases refused; simp [h4]
  cases h6 : !s.pedestalReady o <;> simp only [h6, firstOf] at refused
  swap
  · cases refused; simp [h4]
  simp only [h4, if_false, Bool.false_eq_true]
  by_cases h7 : 7 < plan.toNat
  · simp only [h7, decide_true, Bool.true_or, firstOf] at refused
    cases refused
    rw [if_pos h7]
  simp only [h7, decide_false, Bool.false_or] at refused
  rw [if_neg h7]
  simp only
  generalize Fin.ofNat 8 plan.toNat = n at *
  cases h8 : !(s.plan n).valid <;> simp only [h8, firstOf] at refused
  swap
  · cases refused; rfl
  simp only [Bool.false_eq_true, if_false]
  by_cases h9 : 2 < cls.toNat
  · simp only [h9, decide_true, firstOf] at refused
    cases refused
    exact if_pos h9
  simp only [h9, decide_false, firstOf] at refused
  rw [if_neg h9]
  by_cases h10 : hold < s.control.park.minimumHold
  · simp only [h10, decide_true, firstOf] at refused
    cases refused
    exact if_pos h10
  simp only [h10, decide_false, firstOf] at refused
  rw [if_neg h10]
  by_cases h11 : 999999 < hold
  · simp only [h11, decide_true, firstOf] at refused
    cases refused
    exact if_pos h11
  · simp only [h11, decide_false, firstOf] at refused
    cases refused

/-- Settles O26: the table of R41 is the order of the conditions of ARM. -/
theorem armRefusedInOrder : Obligations.ArmRefusedInOrder := by
  intro s b plan cls hold ref status l refused
  rw [← pedestalReady_eq] at refused
  exact exec_answer (a := s.answer status) rfl l (answerArm_refused refused)

/-! ### The session created, R42 -/

theorem mem_heldNumbers_created {s : State} {o : Outlet} {ses : Session} (vacant : s.slot o = none) {n : Nat} :
    n ∈ ((s.setSlot o (some ses)).setMeter o { s.meter o with overdraw := 0 }).heldNumbers ↔
      n = ses.number ∨ (∃ p v, s.slot p = some v ∧ v.number = n) ∨ ∃ r ∈ s.closures, r.number = n := by
  rw [mem_heldNumbers]
  constructor
  · rintro (⟨p, v, hv, rfl⟩ | queue)
    · rw [slot_setMeter, slot_setSlot] at hv
      split at hv
      · cases hv; exact .inl rfl
      · exact .inr (.inl ⟨p, v, hv, rfl⟩)
    · exact .inr (.inr queue)
  · rintro (rfl | ⟨p, v, hv, rfl⟩ | queue)
    · exact .inl ⟨o, ses, by simp, rfl⟩
    · refine .inl ⟨p, v, ?_, rfl⟩
      have ne : o ≠ p := by rintro rfl; rw [vacant] at hv; cases hv
      simpa [ne] using hv
    · exact .inr queue

theorem answerArm_accepted {s : State} {o : Outlet} {n : Fin 8} {b plan cls : Byte} {hold : Nat} {ref : Vector Byte 12}
    (hb : b.toNat = o.val) (hplan : plan.toNat = n.val) (mode : s.control.mode = .operating) (present : s.present o = true)
    (synced : s.clock.sync ≠ .unsynced) (vacant : s.slot o = none) (ready : s.pedestalReady o = true)
    (valid : (s.plan n).valid = true) (hcls : cls.toNat ≤ 2) (low : s.control.park.minimumHold ≤ hold)
    (high : hold ≤ Config.maxHold) :
    s.answerArm b hold plan cls ref = (s.createSession o (s.newSession hold n.val cls.toNat (s.plan n) ref)).answer .ok
      (toBytes 4 s.sessions.nextNumber) := by
  unfold State.answerArm
  rw [outletOf_eq_some hb, planOf_eq_some hplan]
  simp [mode, present, synced, vacant, ready, valid, Nat.not_lt.2 hcls, Nat.not_lt.2 low, Nat.not_lt.2 high]

/-- Settles O25: the checks pass, and the counter's next number is found within 49 steps. -/
theorem armCreatesSession : Obligations.ArmCreatesSession := by
  intro s o n b plan cls hold ref l hb hplan mode present synced vacant online noFault valid hcls low high
  have ready : s.pedestalReady o = true := by simp [State.pedestalReady, online, noFault]
  let ses := s.newSession hold.toNat n.val cls.toNat (s.plan n) ref
  let t := (s.setSlot o (some ses)).setMeter o { s.meter o with overdraw := 0 }
  refine ⟨advanceNumber t.heldNumbers 49 s.sessions.nextNumber, ?_, fun room => ?_⟩
  · exact exec_answer (a := (s.createSession o ses).answer .ok (toBytes 4 s.sessions.nextNumber)) rfl l
      (answerArm_accepted hb hplan mode present synced vacant ready valid hcls low high)
  · have short : t.heldNumbers.length ≤ 48 := length_heldNumbers (s := t) room
    obtain ⟨k, _, found, free, before⟩ := advanceNumber_reaches short s.sessions.nextNumber
    rw [found]
    have free' := fun h => free ((mem_heldNumbers_created (ses := ses) vacant).2 h)
    refine ⟨fun e => free' (.inl e), fun p v hv e => free' (.inr (.inl ⟨p, v, hv, e⟩)), fun r hr e =>
      free' (.inr (.inr ⟨r, hr, e⟩)), k, rfl, fun j x hj hx => ?_⟩
    rw [hx]
    exact (mem_heldNumbers_created (ses := ses) vacant).1 (before j hj)

end Sys2Proof.Proofs.Arming
end

section
/-! Sessions: the funds guard, the entry into STOPPING, TOPUP, STOP, the close, the idle minute and the pulse (R49 to R63, R66 to R93). -/

namespace Sys2Proof.Proofs.SessionEvents

open Sys2Proof.Machine Sys2Proof.Safety Sys2Proof.Laws
open Sys2Proof.Proofs.Stepping Sys2Proof.Proofs.Accounts

/-! ### States and tables field by field -/

theorem state_ext {s t : State} (held : t.held = s.held) (control : t.control = s.control) (clock : t.clock = s.clock)
    (plans : t.plans = s.plans) (sessions : t.sessions = s.sessions) (meters : t.meters = s.meters) (line : t.line = s.line)
    (exchanges : t.exchanges = s.exchanges) (dispatcher : t.dispatcher = s.dispatcher) (pool : t.pool = s.pool)
    (closures : t.closures = s.closures) (notices : t.notices = s.notices) (ports : t.ports = s.ports)
    (pending : t.pending = s.pending) : t = s := by
  cases s; cases t
  simp only at held control clock plans sessions meters line exchanges dispatcher pool closures notices ports pending
  subst_vars
  rfl

theorem slotsOnly_iff {s t : State} : { t.sessions with slots := s.sessions.slots } = s.sessions ↔
    t.sessions.nextNumber = s.sessions.nextNumber ∧ t.sessions.nextStamp = s.sessions.nextStamp := by
  constructor
  · intro h
    rw [← h]
    exact ⟨rfl, rfl⟩
  · rintro ⟨number, stamp⟩
    show SessionTable.mk s.sessions.slots t.sessions.nextNumber t.sessions.nextStamp = s.sessions
    rw [number, stamp]

theorem nextStamp_reportIfEmpty (s : State) (o : Outlet) : (s.reportIfEmpty o).sessions.nextStamp = s.sessions.nextStamp :=
  (slotsOnly_iff.1 (counters_reportIfEmpty s o)).2

theorem nextStamp_enterStopping (s : State) (o : Outlet) (reason : EndReason) :
    (s.enterStopping o reason).sessions.nextStamp = s.sessions.nextStamp := by
  unfold State.enterStopping
  split
  · rfl
  · simp [nextStamp_reportIfEmpty, State.setAndRelease]

theorem nextStamp_evaluateFunds (s : State) (o : Outlet) : (s.evaluateFunds o).sessions.nextStamp = s.sessions.nextStamp := by
  have sent (t : State) : (t.sendFundsLow o).sessions.nextStamp = t.sessions.nextStamp := by
    unfold State.sendFundsLow
    split <;> simp
  unfold State.evaluateFunds
  repeat' split
  all_goals simp [sent, nextStamp_enterStopping]

theorem nextNumber_enterStopping (s : State) (o : Outlet) (reason : EndReason) :
    (s.enterStopping o reason).sessions.nextNumber = s.sessions.nextNumber := by
  unfold State.enterStopping
  split
  · rfl
  · simp [(slotsOnly_iff.1 (counters_reportIfEmpty _ o)).1, State.setAndRelease]

theorem nextNumber_evaluateFunds (s : State) (o : Outlet) : (s.evaluateFunds o).sessions.nextNumber = s.sessions.nextNumber :=
  congrArg Ledger.next (ledger_evaluateFunds s o)

/-! ### The entry into STOPPING, R57 -/

theorem slotsOnly_enterStopping (s : State) (o : Outlet) (reason : EndReason) :
    { (s.enterStopping o reason).sessions with slots := s.sessions.slots } = s.sessions :=
  slotsOnly_iff.2 ⟨nextNumber_enterStopping s o reason, nextStamp_enterStopping s o reason⟩

theorem frame_enterStopping (s : State) (o : Outlet) (reason : EndReason) :
    { s.enterStopping o reason with sessions := s.sessions, pool := s.pool, notices := s.notices } = s := by
  apply state_ext <;> simp

theorem command_stopping {s : State} {o : Outlet} {ses : Session} {reason : EndReason} {n : Nat} {d : Option Nat}
    (h : s.slot o = some ses) (st : ses.state = .stopping reason n d) : s.command o = if s.present o then .stop else .idle := by
  unfold State.command
  rw [h]
  simp only [st]

/-- Settles O28: the release, the slot and the notice by `enterStopping_some`; the command is that of a STOPPING session. -/
theorem stoppingEntered : Obligations.StoppingEntered := by
  intro s o ses reason h _
  obtain ⟨released, slot, others, notices⟩ := enterStopping_some reason h
  have command : (s.enterStopping o reason).command o = if s.present o then .stop else .idle := by
    rw [command_stopping slot rfl, present_congr (control_enterStopping s o reason)]
  refine ⟨released, slot, others, notices, command, ?_, slotsOnly_enterStopping s o reason, frame_enterStopping s o reason⟩
  unfold State.setpoint
  rw [command]
  cases s.present o <;> rfl

/-! ### STOP and the deadlines, R49, R52, R55 -/

theorem answerStop_none {s : State} {number : Nat} (h : NoSlotHolds s number) : s.answerStop number = s.answer .unknownSession := by
  simp only [State.answerStop, findSession_of_none h]

theorem answerStop_some {s : State} {o : Outlet} {ses : Session} {number : Nat} (h : HoldsNumber s o ses number) :
    s.answerStop number = if ses.state.open then (s.enterStopping o .operator).answer .ok else s.answer .already := by
  simp only [State.answerStop, findSession_of_holds h, h.1]

/-- Settles O29: STOP by the session found, the deadlines by the state that carries them. -/
theorem sessionsStopped : Obligations.SessionsStopped := by
  refine ⟨fun s number l => ⟨fun none' => ?_, fun o ses holds => ⟨fun opened => ?_, fun ended => ?_⟩⟩,
    fun s o ses d held h st passed => ?_, fun s o ses f d held h st passed => ?_⟩
  · exact exec_answer (a := s.answer .unknownSession) rfl l (answerStop_none none')
  · exact exec_answer (a := (s.enterStopping o .operator).answer .ok) rfl l ((answerStop_some holds).trans (if_pos opened))
  · exact exec_answer (a := s.answer .already) rfl l ((answerStop_some holds).trans (if_neg (by simp [ended])))
  · refine exec_happens rfl (by simp) (by simp) held ?_
    simp only [eventEffect, State.armDeadline, h, Option.bind_some, st, SessionState.armDeadline?, if_pos passed]
  · refine exec_happens rfl (by simp) (by simp) held ?_
    simp only [eventEffect, State.suspendDeadline, h, Option.bind_some, st, SessionState.suspendDeadline?, if_pos passed]

/-! ### The funds guard, R85 to R90 -/

theorem headroom_eq {ses : Session} {money : Nat}
    (h : (money : Int) = max 0 ((ses.hold * 1000 : Int) - (ses.feeCharged + ses.energyCharge + ses.idleCharge))) :
    ses.headroom = money := by
  unfold Session.headroom Session.accrued
  omega

/-- R86, R87: the energy headroom from the guard price and the monetary headroom. -/
theorem energyHeadroom_eq {ses : Session} {parkTime price money energy : Nat} (hp : price = max (bandInForce ses.tariff.bands parkTime).2
      (bandInForce ses.tariff.bands (parkTime + 60000)).2)
    (hm : (money : Int) = max 0 ((ses.hold * 1000 : Int) - (ses.feeCharged + ses.energyCharge + ses.idleCharge)))
    (he : energy = if price = 0 then 4294967295 else min (money * 1000 / price) 4294967295) :
    ses.energyHeadroom parkTime = energy := by
  have price' : ses.guardPrice parkTime = price := hp.symm
  rw [Session.energyHeadroom, price', headroom_eq hm, he]
  rfl

theorem fundsStop_iff (ses : Session) (parkTime guard : Nat) : ses.fundsStop parkTime guard = true ↔
    (ses.state = .charging ∧ ses.energyHeadroom parkTime ≤ guard) ∨ (ses.state = .parked ∧ ses.headroom = 0) := by
  unfold Session.fundsStop
  cases ses.state <;> simp

theorem sendFundsLow_some {s : State} {o : Outlet} {ses : Session} (h : s.slot o = some ses) :
    s.sendFundsLow o = (s.setSlot o ((s.slot o).map fun v => { v with fundsLowSent := true })).raiseOutlet .fundsLow o := by
  simp only [State.sendFundsLow, h, Option.map_some]

/-- The state after the stop of the funds guard, if there is one, R89. -/
def fundsStopped (s : State) (o : Outlet) (ses : Session) : State :=
  if ses.fundsStop s.clock.parkTime s.control.park.guardEnergy then s.enterStopping o .funds else s

theorem slot_fundsStopped {s : State} {o : Outlet} {ses : Session} (h : s.slot o = some ses) :
    ∃ v, (fundsStopped s o ses).slot o = some v := by
  unfold fundsStopped
  split
  · exact ⟨_, (enterStopping_some .funds h).2.1⟩
  · exact ⟨ses, h⟩

theorem evaluateFunds_waiting {s : State} {o : Outlet} {ses : Session} (h : s.slot o = some ses) {r : ClosureRecord} {n : Nat}
    (st : ses.state = .closedWait r n) : s.evaluateFunds o = s := by
  simp only [State.evaluateFunds, h, st, SessionState.evaluated, Bool.false_eq_true, if_false]

theorem evaluateFunds_some {s : State} {o : Outlet} {ses : Session} (h : s.slot o = some ses)
    (st : ∀ r n, ses.state ≠ .closedWait r n) : s.evaluateFunds o =
      if ses.energyHeadroom s.clock.parkTime ≤ s.control.park.fundsWarning ∧ ses.fundsLowSent = false then
        ((fundsStopped s o ses).setSlot o (((fundsStopped s o ses).slot o).map fun v => { v with fundsLowSent := true })).raiseOutlet
          .fundsLow o
      else fundsStopped s o ses := by
  have evaluated : ses.state.evaluated = true := by
    cases hs : ses.state with
    | closedWait r n => exact absurd hs (st r n)
    | _ => rfl
  obtain ⟨v, hv⟩ := slot_fundsStopped h
  rw [← sendFundsLow_some hv]
  simp only [State.evaluateFunds, h, evaluated, if_true]
  rfl

/-- Settles O35: the guard's own terms are those of the statement. -/
theorem fundsGuardEvaluated : Obligations.FundsGuardEvaluated := by
  refine fun s o => ⟨fun vacant => by simp only [State.evaluateFunds, vacant], fun ses price money energy h hp hm he =>
    ⟨fun ⟨r, n, st⟩ => evaluateFunds_waiting h st, fun st stopped hstopped => ?_⟩⟩
  have stopped' : fundsStopped s o ses = stopped := by
    rw [hstopped, fundsStopped]
    refine if_congr ?_ rfl rfl
    rw [fundsStop_iff, energyHeadroom_eq hp hm he, headroom_eq hm]
  rw [evaluateFunds_some h st, stopped', energyHeadroom_eq hp hm he]

/-- R89: an evaluation that stops the session leaves it STOPPING for want of funds. -/
theorem slot_evaluateFunds_stops {s : State} {o : Outlet} {ses : Session} (h : s.slot o = some ses)
    (stops : ses.fundsStop s.clock.parkTime s.control.park.guardEnergy = true) :
    ∃ v d, (s.evaluateFunds o).slot o = some v ∧ v.state = .stopping .funds s.clock.parkTime d := by
  have st : ∀ r n, ses.state ≠ .closedWait r n := by
    intro r n e
    simp [Session.fundsStop, e] at stops
  obtain ⟨_, slot, _⟩ := enterStopping_some .funds h
  rw [evaluateFunds_some h st, fundsStopped, if_pos stops]
  split
  · simp [slot]
  · simp [slot]

/-! ### TOPUP, R53 and R91 -/

theorem answerTopup_none {s : State} {number amount : Nat} (h : NoSlotHolds s number) :
    s.answerTopup number amount = s.answer .unknownSession := by
  simp only [State.answerTopup, findSession_of_none h]

theorem answerTopup_some {s : State} {o : Outlet} {ses : Session} {number amount : Nat} (h : HoldsNumber s o ses number) :
    s.answerTopup number amount = if !ses.state.open then s.answer .tooLate
      else if Config.maxHold < ses.hold + amount then s.answer .overLimit
      else ((s.setSlot o (some { ses with hold := ses.hold + amount })).evaluateTopup o).answer .ok (toBytes 4 (ses.hold + amount)) := by
  simp only [State.answerTopup, findSession_of_holds h, h.1]

theorem answerTopup_open {s : State} {o : Outlet} {ses : Session} {number amount : Nat} (h : HoldsNumber s o ses number)
    (opened : ses.state.open = true) (within : ses.hold + amount ≤ 999999) : s.answerTopup number amount =
      ((s.setSlot o (some { ses with hold := ses.hold + amount })).evaluateTopup o).answer .ok (toBytes 4 (ses.hold + amount)) := by
  rw [answerTopup_some h, if_neg (by simp [opened]), if_neg (show ¬Config.maxHold < _ from Nat.not_lt.2 within)]

theorem frame_evaluateTopup (s : State) (o : Outlet) (v : Option Session) :
    { (s.setSlot o v).evaluateTopup o with sessions := s.sessions, pool := s.pool, notices := s.notices } = s := by
  apply state_ext <;> simp

/-- R91: what the evaluation that follows an accepted TOPUP leaves. -/
theorem slot_evaluateTopup {u : State} {o : Outlet} {ses : Session} (h : u.slot o = some ses) :
    ∃ after : Session, (u.evaluateTopup o).slot o = some after ∧
      { after with state := ses.state, parkedElapsed := ses.parkedElapsed, fundsLowSent := ses.fundsLowSent } = ses ∧
      (∀ p, p ≠ o → (u.evaluateTopup o).slot p = u.slot p) ∧
      (ses.fundsStop u.clock.parkTime u.control.park.guardEnergy = false →
        after.state = ses.state ∧ (u.evaluateTopup o).pool = u.pool) ∧
      (u.control.park.fundsWarning < ses.energyHeadroom u.clock.parkTime → after.fundsLowSent = false) := by
  obtain ⟨after, slot, kept, unstopped, _⟩ := slot_evaluateFunds h
  rw [evaluateTopup_some h]
  split
  next rich =>
    refine ⟨{ after with fundsLowSent := false }, by simp [slot], kept, fun p ne => ?_, fun goesOn => ?_, fun _ => rfl⟩
    · simp [Ne.symm ne, slot_evaluateFunds_other ne]
    · exact ⟨(unstopped goesOn).1, by simp [pool_evaluateFunds h goesOn]⟩
  next poor =>
    exact ⟨after, slot, kept, fun p ne => slot_evaluateFunds_other ne,
      fun goesOn => ⟨(unstopped goesOn).1, pool_evaluateFunds h goesOn⟩, fun rich => absurd rich poor⟩

/-- Settles O27: the refusals in their order, then the evaluation with the raised hold. -/
theorem holdToppedUp : Obligations.HoldToppedUp := by
  refine fun s number amount l => ⟨fun none' => ?_, fun o ses holds => ⟨fun ended => ?_, fun opened above => ?_, fun opened within => ?_,
    fun opened within => ?_⟩⟩
  · exact exec_answer (a := s.answer .unknownSession) rfl l (answerTopup_none none')
  · exact exec_answer (a := s.answer .tooLate) rfl l ((answerTopup_some holds).trans (if_pos (by simp [ended])))
  · refine exec_answer (a := s.answer .overLimit) rfl l ?_
    rw [answerTopup_some holds, if_neg (by simp [opened]), if_pos (show Config.maxHold < _ from above)]
  · intro raised u price money energy hraised hu hp hm he
    have slot : u.slot o = some raised := by rw [hu]; simp
    have same : u.clock = s.clock ∧ u.control = s.control := by rw [hu]; exact ⟨rfl, rfl⟩
    obtain ⟨clock, control⟩ := same
    have money' : raised.headroom = money := headroom_eq (by rw [hraised, hm]; push_cast; rfl)
    have energy' : raised.energyHeadroom u.clock.parkTime = energy := by
      rw [clock]
      exact energyHeadroom_eq (by rw [hp, hraised]) (by rw [hraised, hm]; push_cast; rfl) he
    have answered : exec (.topup number amount) s =
        .next ((u.evaluateTopup o).respond .settlement 0x11 .ok (toBytes 4 (ses.hold + amount.toNat))) := by
      rw [hu, hraised]
      exact exec_answer (a := ((s.setSlot o (some { ses with hold := ses.hold + amount.toNat })).evaluateTopup o).answer .ok
        (toBytes 4 (ses.hold + amount.toNat))) rfl l (answerTopup_open holds opened within)
    rw [answered, evaluateTopup_some slot, energy', control]
    refine ⟨fun poor => ?_, fun rich => ?_, fun stops => ?_⟩
    · rw [if_neg (Nat.not_lt.2 poor)]
    · rw [if_pos rich]
    · obtain ⟨v, d, hv, st⟩ := slot_evaluateFunds_stops slot (by
        rw [fundsStop_iff, energy', money', control, hraised]
        exact stops)
      exact ⟨v, d, hv, by rw [st, clock]⟩
  · have slot : (s.setSlot o (some { ses with hold := ses.hold + amount.toNat })).slot o =
        some { ses with hold := ses.hold + amount.toNat } := by simp
    obtain ⟨after, slot', kept, others, goesOn, rich⟩ := slot_evaluateTopup slot
    refine ⟨_, after, exec_answer (a := ((s.setSlot o (some { ses with hold := ses.hold + amount.toNat })).evaluateTopup o).answer .ok
        (toBytes 4 (ses.hold + amount.toNat))) rfl l (answerTopup_open holds opened within), slot', (congrArg Session.hold kept :),
      (congrArg Session.pulseEnergy kept :), (congrArg Session.energyCharge kept :), (congrArg Session.feeCharged kept :),
      (congrArg Session.idleCharge kept :), (congrArg Session.number kept :), fun p ne => ?_, goesOn, rich, frame_evaluateTopup s o _⟩
    exact (others p ne).trans (by simp [Ne.symm ne])

/-! ### The close, R61 to R63, R78, R93, R154, R156 -/

theorem settleDeadline_due {s : State} {o : Outlet} {ses : Session} {reason : EndReason} {stopTime d : Nat} (h : s.slot o = some ses)
    (st : ses.state = .stopping reason stopTime (some d)) (passed : d ≤ s.clock.elapsed) :
    s.settleDeadline o = s.offer o ses (ses.close o reason stopTime s.clock.parkTime) := by
  simp only [State.settleDeadline, h, st, if_pos passed]

/-- R78: the meter register wraps at 2^32. -/
theorem meterDelta_some {ses : Session} {c : ChargeStart} (hc : ses.charge = some c) (start : c.meterStart ≤ max32) :
    ∃ delta, ses.meterDelta = some delta ∧ delta < 4294967296 ∧ (c.meterStart + delta) % 4294967296 = c.lastMeter % 4294967296 ∧
      (ses.meterDisagree = true ↔ (max 20 (ses.pulseEnergy / 100) : Int) < |(delta : Int) - (ses.pulseEnergy : Int)|) := by
  have delta : ses.meterDelta = some ((c.lastMeter + 4294967296 - c.meterStart) % 4294967296) := by
    rw [Session.meterDelta, hc]
    rfl
  refine ⟨_, delta, Nat.mod_lt _ (by decide), ?_, ?_⟩
  · have : c.meterStart ≤ 4294967295 := start
    omega
  · unfold Session.meterDisagree
    rw [delta, decide_eq_true_iff, Int.abs_eq_natAbs]
    omega

/-- Settles O30: the record is `Session.close`, and `offer` puts it where the queue has room. -/
theorem sessionClosed : Obligations.SessionClosed := by
  intro s o ses reason stopTime d held h st passed
  have closed {t : State} (e : s.offer o ses (ses.close o reason stopTime s.clock.parkTime) = t) :
      exec (.settleDeadline o) s = .next t :=
    exec_happens rfl (by simp) (by simp) held ((settleDeadline_due h st passed).trans e)
  refine ⟨ses.close o reason stopTime s.clock.parkTime, fun room => closed (if_pos room),
    fun full => closed (if_neg (Nat.not_lt.2 full)), rfl, rfl, rfl, rfl, rfl, rfl, rfl, ?_, decide_eq_true_iff, rfl, rfl, rfl, rfl,
    rfl, rfl, rfl, rfl, rfl, rfl, closedBands_prices _ _, closedBands_subtotals _ _, rfl, rfl, rfl, rfl, rfl, rfl, rfl, rfl,
    fun uncharged => ?_, fun c hc start => meterDelta_some hc start⟩
  · simp only [Session.close, Session.overrun]
    omega
  · simp [Session.close, Session.meterDelta, Session.meterDisagree, uncharged]

/-! ### The idle minute, R83 and R84 -/

/-- Settles O31: the accrual is due, and charges from the minute after the grace period on. -/
theorem idleMinuteAccrued : Obligations.IdleMinuteAccrued := by
  intro s o ses held h st due
  have due' : ses.accrualDue = true := by simp [Session.accrualDue, st, due]
  refine ⟨fun graced => exec_happens rfl (by simp) (by simp) held ?_, fun charged room =>
    exec_happens rfl (by simp) (by simp) held ?_⟩
  · have uncharged : ¬(ses.tariff.grace < ses.minutesAccrued + 1 ∧ ses.idleMinutes < max32) := by omega
    simp only [eventEffect, State.idleAccrual, h, due', if_true, Session.accrue, if_neg uncharged]
    rfl
  · simp only [eventEffect, State.idleAccrual, h, due', if_true, Session.accrue, if_pos (And.intro charged room)]

/-! ### Pulses, R64 to R72 -/

theorem setMeter_setMeter (s : State) (o : Outlet) (a b : Meter) : (s.setMeter o a).setMeter o b = s.setMeter o b := by
  simp [State.setMeter]

theorem takePulse_due {s : State} {o : Outlet} {n stamp : Nat} (low : (s.meter o).filter = .lowMeasuring n stamp)
    (wide : (s.outletItems o).pulseMinWidth ≤ n) : s.takePulse o =
      (s.setMeter o { s.meter o with filter := .lowTaken, pulses := min ((s.meter o).pulses + 1) max32 }).attributePulse o
        (s.outletItems o).pulseWeight stamp := by
  simp only [State.takePulse, low, if_pos wide]
  rfl

theorem attributePulse_stray {s : State} {o : Outlet} {w : Nat} (stamp : Nat)
    (h : s.slot o = none ∨ ∃ ses, s.slot o = some ses ∧ (ses.state.bills = false ∨ max32 < ses.pulseEnergy + w)) :
    s.attributePulse o w stamp = s.strayPulse o w := by
  rcases h with vacant | ⟨ses, h, refused⟩
  · simp only [State.attributePulse, vacant]
  · simp only [State.attributePulse, h]
    refine if_neg ?_
    rintro ⟨bills, room⟩
    rcases refused with r | r
    · rw [bills] at r; cases r
    · omega

theorem attributePulse_billed {s : State} {o : Outlet} {ses : Session} {w : Nat} (stamp : Nat) (h : s.slot o = some ses)
    (bills : ses.state.bills = true) (room : ses.pulseEnergy + w ≤ max32) :
    s.attributePulse o w stamp = (s.setSlot o (some (ses.bill w stamp))).evaluateFunds o := by
  simp only [State.attributePulse, h, if_pos (And.intro bills room)]

/-- Settles O32: the band in force; the pulse stray, or billed by `Session.bill`. -/
theorem pulseAttributed : Obligations.PulseAttributed := by
  refine ⟨fun bands parkTime formed => bandInForce_spec formed parkTime, fun s o n stamp held low wide =>
    ⟨fun stray => ?_, fun ses h bills room => ⟨ses.bill (s.outletItems o).pulseWeight stamp, ?_, rfl, Nat.mod_lt _ (by decide), ?_,
      addAt_eq_modify _ _ _, rfl⟩⟩⟩
  · refine exec_happens rfl (by simp) (by simp) held ?_
    refine (takePulse_due low wide).trans ((attributePulse_stray (s := s.setMeter o _) stamp stray).trans ?_)
    rw [State.strayPulse, setMeter_setMeter]
    simp [satAdd]
  · refine exec_happens rfl (by simp) (by simp) held ?_
    exact (takePulse_due low wide).trans (attributePulse_billed stamp h bills room)
  · simp only [Session.bill]
    rw [Nat.add_mul, Nat.add_assoc, Nat.div_add_mod', Nat.add_assoc]

/-- Settles O33: the filter's two other samples. -/
theorem filterFollowsSamples : Obligations.FilterFollowsSamples := by
  refine fun s o held => ⟨fun high => ?_, fun low => ?_⟩
  · refine exec_happens rfl (by simp) (by simp) held ?_
    simp only [eventEffect, State.leadingEdge, high]
  · refine exec_happens rfl (by simp) (by simp) held ?_
    rcases low with e | e <;> simp only [eventEffect, State.inputHigh, e]

end Sys2Proof.Proofs.SessionEvents
end

section
/-! The park clock (R19 to R31, R48, R64): TIME_REF by its outcome, the millisecond, the holdover deadline. -/

namespace Sys2Proof.Proofs.ParkTime

open Sys2Proof.Machine Sys2Proof.Safety Sys2Proof.Laws
open Sys2Proof.Proofs.Stepping Sys2Proof.Proofs.SessionEvents

/-! ### TIME_REF, R24 to R30 -/

/-- The clock after a reference. -/
def referred (s : State) (ref : Nat) : Clock :=
  s.clock.reference ref s.control.park.stepThreshold s.control.park.filterDepth s.control.park.holdoverTime

/-- The state after a reference. -/
def afterReference (s : State) (ref : Nat) : State :=
  ({ s with clock := referred s ref } : State).referenceFlags (s.clock.outcome ref s.control.park.stepThreshold)

theorem clock_afterReference (s : State) (ref : Nat) : (afterReference s ref).clock = referred s ref := by
  unfold afterReference
  cases s.clock.outcome ref s.control.park.stepThreshold <;> rfl

theorem frame_afterReference (s : State) (ref : Nat) :
    { afterReference s ref with clock := s.clock, sessions := s.sessions, notices := s.notices } = s := by
  unfold afterReference
  cases s.clock.outcome ref s.control.park.stepThreshold <;> rfl

theorem exec_timeRef {s : State} (l : Listening s .site) (ref : BitVec 48) :
    exec (.timeRef ref) s = .next ((afterReference s ref.toNat).respond .site 0x31 .ok
      ((s.clock.outcome ref.toNat s.control.park.stepThreshold).code ::
        toBytesInt 4 (reportedDifference (s.clock.outcome ref.toNat s.control.park.stepThreshold) (s.clock.difference ref.toNat)) ++
        toBytes 6 (afterReference s ref.toNat).clock.parkTime ++ toBytesInt 2 (afterReference s ref.toNat).clock.trim)) := by
  rw [clock_afterReference]
  exact exec_answer (a := s.answerTimeRef ref.toNat) rfl l rfl

theorem elapsed_discipline (c : Clock) (ref threshold depth : Nat) : (c.discipline ref threshold depth).elapsed = c.elapsed := by
  unfold Clock.discipline
  cases c.outcome ref threshold with
  | stepped => cases h : c.slewing <;> simp [Clock.setTrim]
  | _ => rfl

/-- R21: the adjustment counter restarts when the trim takes another value. -/
theorem adjust_discipline (c : Clock) (ref threshold depth : Nat) : (c.discipline ref threshold depth).adjust =
    if (c.discipline ref threshold depth).trim = c.trim then c.adjust else 0 := by
  unfold Clock.discipline
  cases c.outcome ref threshold with
  | stepped => cases h : c.slewing <;> simp [Clock.setTrim]
  | _ => rfl

theorem slot_flagged (s : State) (c : Clock) (f : ClockFlag) (o : Outlet) :
    (({ s with clock := c } : State).flagLive f).slot o =
      (s.slot o).map fun ses => if ses.state.live then ses.setFlag f else ses :=
  slot_flagLive { s with clock := c } f o

/-- Settles O23: the outcome decides; each outcome's clock is `Clock.discipline`. -/
theorem referenceDisciplines : Obligations.ReferenceDisciplines := by
  intro s ref D l hD
  have diff : s.clock.difference ref.toNat = D := hD.symm
  refine ⟨afterReference s ref.toNat, _, _, exec_timeRef l ref, ?_⟩
  have clock := clock_afterReference s ref.toNat
  refine ⟨congrArg Clock.sync clock, (congrArg Clock.elapsed clock).trans (elapsed_discipline _ _ _ _),
    congrArg Clock.holdoverDeadline clock, fun _ => ?_, frame_afterReference s ref.toNat, fun unset => ?_, fun set' => ?_⟩
  · rw [clock]
    exact adjust_discipline s.clock _ _ _
  · have out : s.clock.outcome ref.toNat s.control.park.stepThreshold = .firstSet := if_pos unset
    rw [clock, referred, Clock.reference, Clock.discipline, afterReference, out]
    refine ⟨rfl, rfl, rfl, rfl, rfl, rfl, ?_, ?_⟩ <;> simp only [State.referenceFlags]
  have notFirst : s.clock.outcome ref.toNat s.control.park.stepThreshold ≠ .firstSet := by
    rw [Clock.outcome, if_neg set']
    split_ifs <;> decide
  refine ⟨by rw [reportedDifference, if_neg notFirst, diff], fun ahead => ?_, fun small behind => ?_, fun small near => ?_⟩
  · have out : s.clock.outcome ref.toNat s.control.park.stepThreshold = .stepped := by
      rw [Clock.outcome, if_neg set', if_pos (by rw [diff]; exact ahead)]
    rw [clock, referred, Clock.reference, Clock.discipline, afterReference, out]
    refine ⟨rfl, rfl, rfl, rfl, ?_, rfl, ?_, ?_, fun o => ?_⟩
    · simp only
      split <;> rfl
    · simp only [State.referenceFlags, State.raise, State.flagLive]
    · simp only [State.referenceFlags, State.raise, State.flagLive]
    · rw [State.referenceFlags, slot_raise]
      exact slot_flagged s _ .timeStepped o
  · have out : s.clock.outcome ref.toNat s.control.park.stepThreshold = .slewing := by
      rw [Clock.outcome, if_neg set', if_neg (by rw [diff]; omega), if_pos (by rw [diff]; exact behind)]
    rw [clock, referred, Clock.reference, Clock.discipline, afterReference, out]
    refine ⟨rfl, rfl, rfl, rfl, rfl, rfl, ?_, ?_, slot_flagged s _ .timeSlewed⟩
    · simp only [State.referenceFlags, State.flagLive]
    · simp only [State.referenceFlags, State.flagLive]
  · have out : s.clock.outcome ref.toNat s.control.park.stepThreshold = .filtered := by
      rw [Clock.outcome, if_neg set', if_neg (by rw [diff]; omega), if_neg (by rw [diff]; omega)]
    rw [clock, referred, Clock.reference, Clock.discipline, afterReference, out, ← diff]
    refine ⟨rfl, rfl, rfl, ?_, ?_, ?_, rfl⟩
    · simp only [State.referenceFlags]
    · simp only [State.referenceFlags]
    · simp [Clock.filter]

/-! ### The millisecond and the holdover deadline, R19 to R21, R28, R29, R48, R64, R65 -/

theorem slot_ticked (s : State) (o : Outlet) : s.millisecond.slot o =
    (s.slot o).map fun ses => if ses.state = .parked then { ses with parkedElapsed := ses.parkedElapsed + 1 } else ses := by
  have tick : Session.tick = fun ses =>
      if ses.state = .parked then { ses with parkedElapsed := ses.parkedElapsed + 1 } else ses := by
    funext ses
    unfold Session.tick
    cases h : ses.state <;> simp
  simp [State.slot, State.millisecond, tick]

theorem meter_ticked (s : State) (o : Outlet) : s.millisecond.meter o = (s.meter o).tick := by
  simp [State.meter, State.millisecond]

theorem meter_tick_low {m : Meter} {n stamp : Nat} (h : m.filter = .lowMeasuring n stamp) :
    m.tick = { m with filter := .lowMeasuring (n + 1) stamp } := by
  simp only [Meter.tick, h]

theorem meter_tick_other {m : Meter} (h : ∀ n stamp, m.filter ≠ .lowMeasuring n stamp) : m.tick = m := by
  unfold Meter.tick
  cases hf : m.filter with
  | lowMeasuring n stamp => exact absurd hf (h n stamp)
  | _ => rfl

theorem tickElapsed_eq {c : Clock} (h : c.elapsed < max48) : c.tickElapsed = { c with elapsed := c.elapsed + 1 } := if_pos h

/-- R21: the adjustment counter reaches the interval of a trim that is not 0. -/
theorem adjustDue_iff (c : Clock) : c.adjustDue = true ↔ c.trim ≠ 0 ∧ 1000000 / c.trim.natAbs ≤ c.adjust + 1 := by
  rw [Clock.adjustDue, Bool.and_eq_true]
  exact and_congr bne_iff_ne decide_eq_true_iff

theorem tickPark_due {c : Clock} (h : c.adjustDue = true) :
    c.tickPark = { c with adjust := 0, parkTime := c.advancePark (if 0 < c.trim then 2 else 0) } := if_pos h

theorem tickPark_plain {c : Clock} (h : ¬c.adjustDue = true) :
    c.tickPark = { c with adjust := if c.trim = 0 then 0 else c.adjust + 1, parkTime := c.advancePark 1 } := if_neg h

/-- Settles O24: one millisecond, its adjustment by `adjustDue`; the holdover deadline passes in SYNCED. -/
theorem clockRuns : Obligations.ClockRuns := by
  refine ⟨fun s held room => ⟨s.millisecond, exec_happens rfl (by simp) (by simp) held rfl, fun due =>
    exec_happens rfl (by simp) (by simp) held (if_pos due), ?_⟩, fun s d held synced deadline passed => ⟨s.enterHoldover, ?_, rfl, rfl,
      fun o => ?_, ?_, ?_⟩⟩
  · have clock : s.millisecond.clock = ({ s.clock with elapsed := s.clock.elapsed + 1 } : Clock).tickPark := by
      rw [← tickElapsed_eq room]
      rfl
    have due : ({ s.clock with elapsed := s.clock.elapsed + 1 } : Clock).adjustDue = true ↔
        s.clock.trim ≠ 0 ∧ 1000000 / s.clock.trim.natAbs ≤ s.clock.adjust + 1 := adjustDue_iff _
    refine ⟨?_, fun zero => ?_, fun ne early => ?_, fun ne late => ?_, ?_, slot_ticked s, fun o n stamp low => ?_, fun o other => ?_, ?_,
      ?_⟩
    · rw [clock]
      unfold Clock.tickPark
      split <;> rfl
    · rw [clock, tickPark_plain (by rw [due]; tauto)]
      exact ⟨rfl, if_pos zero⟩
    · rw [clock, tickPark_plain (by rw [due]; omega)]
      exact ⟨rfl, if_neg ne⟩
    · rw [clock, tickPark_due (due.2 ⟨ne, late⟩)]
      exact ⟨rfl, rfl⟩
    · rw [clock]
      unfold Clock.tickPark
      split <;> rfl
    · rw [meter_ticked, meter_tick_low low]
    · rw [meter_ticked, meter_tick_other other]
    · simp only [State.millisecond]
    · simp only [State.millisecond]
  · refine exec_happens rfl (by simp) (by simp) held ?_
    have due : s.clock.holdoverDue = true := by simp [Clock.holdoverDue, synced, deadline, passed]
    exact if_pos due
  · rw [State.enterHoldover, slot_raise]
    exact slot_flagged s _ .holdoverSeen o
  · simp only [State.enterHoldover, State.raise, State.flagLive]
  · simp only [State.enterHoldover, State.raise, State.flagLive]

end Sys2Proof.Proofs.ParkTime
end

section
/-! The module pool (R135 to R153): CONFIRM, faults, deadlines, service, the cabinet link. -/

namespace Sys2Proof.Proofs.ModuleEvents

open Sys2Proof.Machine Sys2Proof.Safety Sys2Proof.Laws
open Sys2Proof.Proofs.Stepping Sys2Proof.Proofs.SessionEvents

/-! ### A module enters FAULTED, R139, R144 to R146 -/

theorem faultModule_unassigned {s : State} {m : ModuleNo} (reason : FaultReason) (h : (s.module m).state.assigned = none) :
    s.faultModule m reason = (s.setModuleState m (.faulted reason)).raiseModuleFault m := by
  rw [State.faultModule, h, Option.isSome_none, if_neg Bool.false_ne_true, unassign_none _ h]

theorem faultModule_assigned {s : State} {m : ModuleNo} {o : Outlet} (reason : FaultReason) (h : (s.module m).state.assigned = some o) :
    s.faultModule m reason = ((s.issue (.unroute m)).unassign m (.faulted reason)).raiseModuleFault m := by
  rw [State.faultModule, h, Option.isSome_some, if_pos rfl]

theorem module_faultModule (s : State) (m : ModuleNo) (reason : FaultReason) (k : ModuleNo) :
    (s.faultModule m reason).module k = if k = m then { s.module m with state := .faulted reason } else s.module k := by
  cases h : (s.module m).state.assigned with
  | none =>
    rw [faultModule_unassigned reason h, module_raiseModuleFault, module_setModuleState]
    simp only [eq_comm]
  | some o =>
    rw [faultModule_assigned reason h, module_raiseModuleFault]
    exact (unassign_some (s := s.issue (.unroute m)) _ h).1 k

theorem frame_faultModule (s : State) (m : ModuleNo) (reason : FaultReason) :
    { s.faultModule m reason with sessions := s.sessions, pool := s.pool, notices := s.notices } = s := by
  apply state_ext <;> simp

theorem shortfalls_faultModule (s : State) (m : ModuleNo) (reason : FaultReason) :
    (s.faultModule m reason).pool.shortfalls = s.pool.shortfalls := by
  cases h : (s.module m).state.assigned with
  | none => rw [faultModule_unassigned reason h, pool_raiseModuleFault, shortfalls_setModuleState]
  | some o =>
    obtain ⟨_, _, _, _, _, shortfalls, _⟩ := unassign_some (s := s.issue (.unroute m)) (.faulted reason) h
    rw [faultModule_assigned reason h, pool_raiseModuleFault, shortfalls, shortfalls_issue]

theorem notices_faultModule (s : State) (m : ModuleNo) (reason : FaultReason) : (s.faultModule m reason).notices =
    { s.notices with site.moduleFault := s.notices.site.moduleFault ||| moduleBit m } := by
  cases h : (s.module m).state.assigned with
  | none => rw [faultModule_unassigned reason h]; rfl
  | some o => rw [faultModule_assigned reason h]; simp [State.raiseModuleFault]

theorem unrouteGoes_congr {s t : State} {m : ModuleNo} (e : t.pool.cabinet = s.pool.cabinet) (h : UnrouteGoes s m) :
    UnrouteGoes t m := by
  unfold UnrouteGoes
  rwa [e]

/-- R145: what the module's fault does to the outlet it leaves. -/
theorem faultModule_leaves {s : State} {m : ModuleNo} {o : Outlet} (reason : FaultReason) (h : (s.module m).state.assigned = some o) :
    UnrouteGoes (s.faultModule m reason) m ∧
      (s.faultModule m reason).pool.cabinet = (s.issue (.unroute m)).pool.cabinet ∧
      SettleReported s (s.faultModule m reason) o ∧
      { (s.faultModule m reason).sessions with slots := s.sessions.slots } = s.sessions ∧
      ∀ p, p ≠ o → (s.faultModule m reason).slot p = s.slot p := by
  obtain ⟨_, settle, others, counters, cabinet, _, _⟩ := unassign_some (s := s.issue (.unroute m)) (.faulted reason) h
  rw [faultModule_assigned reason h]
  exact ⟨unrouteGoes_congr cabinet (unrouteGoes_issue s m), cabinet, settle, counters, others⟩

/-- Settles O37: the fault of an assigned module and of one without an outlet; the indications. -/
theorem moduleFaulted : Obligations.ModuleFaulted := by
  refine ⟨fun s m reason => ⟨?_, fun k ne => ?_, notices_faultModule s m reason, shortfalls_faultModule s m reason, fun h => ?_,
    fun o h => faultModule_leaves reason h, frame_faultModule s m reason⟩, fun s b m held hb => ⟨fun out => ?_, fun used => ?_, ?_⟩⟩
  · rw [module_faultModule, if_pos rfl]
  · rw [module_faultModule, if_neg ne]
  · rw [faultModule_unassigned reason h]
    exact ⟨by simp, by simp⟩
  · subst hb
    exact exec_happens rfl (by simp) (by simp) held (if_pos out)
  · subst hb
    exact exec_happens rfl (by simp) (by simp) held (if_neg used)
  · subst hb
    exact exec_happens rfl (by simp) (by simp) held rfl

/-- Settles O38: each deadline in the state that carries it. -/
theorem moduleDeadlinesPass : Obligations.ModuleDeadlinesPass := by
  refine fun s m o d held passed => ⟨fun ooc st => ?_, fun st => ?_, fun st => ?_, fun st => ?_⟩ <;>
    refine exec_happens rfl (by simp) (by simp) held ?_
  · simp only [eventEffect, State.switchTimeout, st, if_pos passed]
  · simp only [eventEffect, State.warmUpDeadline, st, if_pos passed]
  · simp only [eventEffect, State.drainDeadline, st, if_pos passed, State.openModule]
  · simp only [eventEffect, State.openingTimeout, st, if_pos passed]

/-! ### CONFIRM, R138 and R144 -/

/-- R144: a confirmed opening. -/
theorem opened_some {s : State} {m : ModuleNo} {o : Outlet} (h : (s.module m).state.assigned = some o) :
    (s.opened m).module m = { s.module m with
        state := if (s.module m).leaving then .outOfService else .free, leaving := false } ∧
      (∀ k, k ≠ m → (s.opened m).module k = s.module k) ∧ SettleReported s (s.opened m) o ∧
      (∀ p, p ≠ o → (s.opened m).slot p = s.slot p) ∧
      { (s.opened m).sessions with slots := s.sessions.slots } = s.sessions ∧
      (s.opened m).pool.cabinet = s.pool.cabinet ∧ (s.opened m).pool.shortfalls = s.pool.shortfalls ∧
      { s.opened m with sessions := s.sessions, pool := s.pool } = s := by
  unfold State.opened
  split
  next leaving =>
    have cleared : (s.setModule m { s.module m with leaving := false }).module m = { s.module m with leaving := false } := by simp
    have h' : ((s.setModule m { s.module m with leaving := false }).module m).state.assigned = some o := by rw [cleared]; exact h
    obtain ⟨modules, settle, others, counters, cabinet, shortfalls, frame⟩ := unassign_some .outOfService h'
    refine ⟨?_, fun k ne => ?_, settle, others, counters, cabinet, shortfalls, ?_⟩
    · rw [modules, if_pos rfl, cleared]
    · rw [modules, if_neg ne]
      simp [Ne.symm ne]
    · apply state_ext <;> simp
  next staying =>
    obtain ⟨modules, settle, others, counters, cabinet, shortfalls, frame⟩ := unassign_some .free h
    refine ⟨?_, fun k ne => ?_, settle, others, counters, cabinet, shortfalls, frame⟩
    · rw [modules, if_pos rfl, ← Bool.eq_false_iff.2 staying]
    · rw [modules, if_neg ne]

/-- Settles O36: a CONFIRM by the module's state. -/
theorem confirmServed : Obligations.ConfirmServed := by
  intro s b m held hb
  have served {route t} (e : b.confirm m route = t) : exec (.confirm m route) s = .next t :=
    exec_happens rfl (by simp) (by simp) held (by rw [← e, hb]; rfl)
  have same : b.module m = s.module m := by rw [hb]; rfl
  have clock : b.clock = s.clock := by rw [hb]; rfl
  have control : b.control = s.control := by rw [hb]; rfl
  refine ⟨fun o d st warm => served ?_, fun o d st cold => served ?_, fun o d st => served ?_, fun o d ooc route st ne => served ?_,
    fun o d st => ⟨b.opened m, served ?_, ?_⟩, fun route unserved => served ?_⟩
  · simp only [State.confirm, same, st, if_true, State.routeConfirmed, if_neg warm, control, clock, Bool.false_eq_true, if_false]
  · simp only [State.confirm, same, st, if_true, State.routeConfirmed, control, Bool.false_eq_true, if_false, if_pos cold]
  · simp only [State.confirm, same, st, if_true, State.routeConfirmed, State.openModule, control, clock]
  · simp only [State.confirm, same, st, if_neg ne]
  · simp only [State.confirm, same, st, if_true]
  · have assigned : (b.module m).state.assigned = some o := by rw [same, st]; rfl
    obtain ⟨own, others, settle, slots, counters, cabinet, shortfalls, frame⟩ := opened_some assigned
    subst hb
    exact ⟨own, others, settle, slots, counters, cabinet, shortfalls,
      congrArg (fun t : State => { t with sessions := s.sessions, pool := s.pool }) frame⟩
  · have unexpected : b.confirm m route = b.unexpectedConfirm := by
      unfold State.confirm
      rw [same]
      rcases unserved with h | ⟨o, d, h⟩ | ⟨o, h⟩ | ⟨o, d, h⟩ | ⟨o, d, h, ne⟩
      · cases st : (s.module m).state <;> simp [st, ModuleState.assigned] at h <;> rfl
      · rw [h]
      · rw [h]
      · rw [h]
      · rw [h]
        exact if_neg ne
    rw [unexpected, hb]
    rfl

/-! ### MODULE_SERVICE and MODULE_CLEAR, R148 to R150 -/

theorem exec_serviceOut {s : State} {b : Byte} {m : ModuleNo} {a : Answer} (l : Listening s .site) (hb : b.toNat = m.val)
    (e : s.serviceOut m = a) : exec (.moduleServiceOut b 0) s = .next (a.state.respond .site 0x36 a.status a.payload) := by
  refine exec_answer rfl l ?_
  simp only [State.answerService, moduleOfByte_eq_some hb]
  exact (if_pos rfl).trans e

theorem exec_serviceIn {s : State} {b : Byte} {m : ModuleNo} {a : Answer} (l : Listening s .site) (hb : b.toNat = m.val)
    (e : s.serviceIn m = a) : exec (.moduleServiceIn b) s = .next (a.state.respond .site 0x36 a.status a.payload) := by
  refine exec_answer rfl l ?_
  simp only [State.answerService, moduleOfByte_eq_some hb]
  exact (if_neg (by decide)).trans ((if_pos rfl).trans e)

theorem exec_clear {s : State} {b : Byte} {a : Answer} (l : Listening s .site)
    (e : s.answerClear b = a) : exec (.moduleClear b) s = .next (a.state.respond .site 0x37 a.status a.payload) :=
  exec_answer rfl l e

theorem answerClear_some {s : State} {b : Byte} {m : ModuleNo} (hb : b.toNat = m.val) {r : FaultReason}
    (st : (s.module m).state = .faulted r) : s.answerClear b =
      if (s.module m).indication = .faultOn then s.answer .faultPresent [7, (s.module m).indication.code]
      else if (s.module m).leaving then
        (s.setModule m { s.module m with state := .outOfService, leaving := false }).answerState m .ok
      else (s.setModuleState m .free).answerState m .ok := by
  simp only [State.answerClear, moduleOfByte_eq_some hb, st, ModuleState.code]

theorem answerClear_other {s : State} {b : Byte} {m : ModuleNo} (hb : b.toNat = m.val)
    (st : ∀ r, (s.module m).state ≠ .faulted r) :
    s.answerClear b = s.answer .faultPresent [(s.module m).state.code, (s.module m).indication.code] := by
  simp only [State.answerClear, moduleOfByte_eq_some hb]

theorem answerState_setModule (s : State) (m : ModuleNo) (v : Module) (status : Status) :
    (s.setModule m v).answerState m status = (s.setModule m v).answer status [v.state.code] := by
  simp [State.answerState]

theorem answerState_setModuleState (s : State) (m : ModuleNo) (st : ModuleState) (status : Status) :
    (s.setModuleState m st).answerState m status = (s.setModuleState m st).answer status [st.code] := by
  simp [State.answerState]

theorem serviceIn_used {s : State} {m : ModuleNo} (used : (s.module m).state ≠ .outOfService) : s.serviceIn m =
    if (s.module m).leaving then (s.setModule m { s.module m with leaving := false }).answerState m .ok
    else s.answerState m .already := by
  unfold State.serviceIn
  split
  next out => exact absurd out used
  next => rfl

theorem serviceOut_assigned {s : State} {m : ModuleNo} (h : (s.module m).state.assigned.isSome = true) : s.serviceOut m =
    if (s.module m).leaving then s.answerState m .already
    else ((s.setModule m { s.module m with leaving := true }).releaseModule m).answerState m .ok := by
  unfold State.serviceOut
  split
  next e => rw [e] at h; cases h
  next e => rw [e] at h; cases h
  next r e => rw [e] at h; cases h
  next => rfl

/-- Settles O39: the bytes first, then the module's state. -/
theorem moduleServiced : Obligations.ModuleServiced := by
  refine fun s b l => ⟨fun high => ⟨fun d => ?_, ?_, ?_⟩, fun d high => ?_, fun m hb => ⟨fun st => ⟨?_, fun on => ?_, fun off => ?_⟩,
    fun st => ?_, fun r st => ⟨?_, fun on => ?_, fun off leaving => ?_, fun off staying => ?_⟩, fun st => ?_, fun used leaving => ?_,
    fun used staying => ?_, fun assigned => ⟨fun leaving => ?_, fun staying => ?_⟩⟩⟩
  · exact exec_answer (a := s.answer .badValue) rfl l (by simp only [State.answerService, moduleOfByte_eq_none high])
  · exact exec_answer (a := s.answer .badValue) rfl l (by simp only [State.answerService, moduleOfByte_eq_none high])
  · exact exec_answer (a := s.answer .badValue) rfl l (by simp only [State.answerClear, moduleOfByte_eq_none high])
  · have h0 : ¬d = 0#8 := by rintro rfl; simp at high
    have h1 : ¬d = 1#8 := by rintro rfl; simp at high
    refine exec_answer (a := s.answer .badValue) rfl l ?_
    simp only [State.answerService, if_neg h0, if_neg h1]
    cases moduleOfByte b <;> rfl
  · exact exec_serviceOut (a := s.answer .already [0]) l hb (by simp only [State.serviceOut, st, State.answerState]; rfl)
  · exact exec_serviceIn (a := (s.setModuleState m (.faulted .cabinetFault)).answer .ok [7]) l hb
      (by simp only [State.serviceIn, st, if_pos on, answerState_setModuleState]; rfl)
  · exact exec_serviceIn (a := (s.setModuleState m .free).answer .ok [1]) l hb
      (by simp only [State.serviceIn, st, if_neg off, answerState_setModuleState]; rfl)
  · exact exec_serviceOut (a := (s.setModuleState m .outOfService).answer .ok [0]) l hb
      (by simp only [State.serviceOut, st, answerState_setModuleState]; rfl)
  · exact exec_serviceOut (a := (s.setModule m { s.module m with state := .outOfService, leaving := false }).answer .ok [0]) l hb
      (by simp only [State.serviceOut, st, answerState_setModule]; rfl)
  · refine exec_clear (a := s.answer .faultPresent [7, 1]) l ?_
    rw [answerClear_some hb st, if_pos on, on]
    rfl
  · refine exec_clear (a := (s.setModule m { s.module m with state := .outOfService, leaving := false }).answer .ok [0]) l ?_
    rw [answerClear_some hb st, if_neg off, if_pos leaving, answerState_setModule]
    rfl
  · refine exec_clear (a := (s.setModuleState m .free).answer .ok [1]) l ?_
    rw [answerClear_some hb st, if_neg off, if_neg (by simp [staying]), answerState_setModuleState]
    rfl
  · exact exec_clear l (answerClear_other hb st)
  · refine exec_serviceIn (a := (s.setModule m { s.module m with leaving := false }).answer .ok [(s.module m).state.code]) l hb ?_
    rw [serviceIn_used used, if_pos leaving, answerState_setModule]
  · exact exec_serviceIn (a := s.answer .already [(s.module m).state.code]) l hb
      ((serviceIn_used used).trans (if_neg (by simp [staying])))
  · exact exec_serviceOut (a := s.answer .already [(s.module m).state.code]) l hb
      ((serviceOut_assigned assigned).trans (if_pos leaving))
  · have marked : (s.setModule m { s.module m with leaving := true }).module m = { s.module m with leaving := true } := by simp
    have after : ((s.setModule m { s.module m with leaving := true }).releaseModule m).module m =
        { s.module m with state := afterRelease s (s.module m).state, leaving := true } := by
      rw [module_releaseModule, if_pos rfl, marked]
      cases (s.module m).state <;> rfl
    refine ⟨(s.setModule m { s.module m with leaving := true }).releaseModule m, ?_, after, fun k ne => ?_, ?_, fun ⟨o, d, st⟩ => ?_,
      fun st => ?_, ?_⟩
    · refine exec_serviceOut (a := ((s.setModule m { s.module m with leaving := true }).releaseModule m).answer .ok
        [(afterRelease s (s.module m).state).code]) l hb ?_
      rw [serviceOut_assigned assigned, if_neg (by simp [staying]), State.answerState, after]
    · rw [module_releaseModule, if_neg ne]
      simp [Ne.symm ne]
    · exact (pool_releaseModule _ m).1
    · have st' : ((s.setModule m { s.module m with leaving := true }).module m).state = .warming o d := by rw [marked]; exact st
      refine ⟨unrouteGoes_releaseModule_self st', ?_⟩
      rw [State.releaseModule, st']
      rfl
    · refine cabinet_releaseModule_of_not_warming fun o d => ?_
      rw [marked]
      exact st o d
    · apply state_ext <;> simp

/-! ### The cabinet link, R151 to R153 -/

theorem cabinet_issue_busy {s : State} (msg : CabinetMsg) (busy : s.pool.cabinet.sending ≠ none) :
    (s.issue msg).pool.cabinet = { s.pool.cabinet with waiting := enqueue s.pool.cabinet.waiting msg } := by
  simp only [State.issue, cabinet_setCabinet, CabinetLink.pump]
  split
  next h _ => exact absurd h busy
  next => rfl

/-- Settles O40: the queue, the pump, and the judgement of what comes in. -/
theorem cabinetLinkServed : Obligations.CabinetLinkServed := by
  refine ⟨fun s msg busy => ⟨fun others => ?_, fun before after old split same others => ?_⟩, fun s msg idle empty => ?_,
    fun s msg held sending => ⟨fun empty => ?_, fun head rest waiting => ?_⟩, fun s f held complete => ⟨fun bad => ?_,
      fun length ok unknown => ?_⟩⟩
  · rw [cabinet_issue_busy msg busy, enqueue_of_none others]
  · rw [cabinet_issue_busy msg busy, split, enqueue_of_some same others]
  · simp [State.issue, CabinetLink.pump, idle, empty, enqueue]
  · refine exec_happens rfl (by simp) (by simp) held ?_
    simp [eventEffect, sending, State.cabinetSent, CabinetLink.pump, empty]
  · refine exec_happens rfl (by simp) (by simp) held ?_
    simp [eventEffect, sending, State.cabinetSent, CabinetLink.pump, waiting]
  · refine exec_happens rfl (by simp) (by simp) held ?_
    have judged : judgeCabinet f = .frameError := by
      unfold judgeCabinet
      rcases bad with ⟨h2, h3⟩ | check
      · exact if_pos ⟨h2, h3⟩
      · split
        · rfl
        · simp [check]
    simp only [eventEffect, complete, judged, BEq.rfl, Bool.and_true, if_true]
    rfl
  · refine exec_happens rfl (by simp) (by simp) held ?_
    have judged : judgeCabinet f = .unusable := by
      unfold judgeCabinet
      rw [if_neg (by tauto), ok, unknown]
      rfl
    simp only [eventEffect, complete, judged, BEq.rfl, Bool.and_true, if_true]
    rfl

end Sys2Proof.Proofs.ModuleEvents
end

section
/-! The dispatcher (R118 to R131): A and the ceilings, admission, sharing, requests and releases of modules. -/

namespace Sys2Proof.Proofs.Dispatching

open Sys2Proof.Machine Sys2Proof.Safety Sys2Proof.Laws
open Sys2Proof.Proofs.Stepping Sys2Proof.Proofs.SessionEvents

/-! ### What the stages before the grants read, R120 to R123 -/

/-- The state after stage 3, which the ceilings are formed from. -/
def capped (s : State) : State := s.fundsStage.capStage

theorem control_capped (s : State) : (capped s).control = s.control := by simp [capped]

theorem sessions_capped (s : State) : (capped s).sessions = s.fundsStage.sessions := by simp [capped]

theorem pool_capped (s : State) : (capped s).pool = s.fundsStage.pool := by simp [capped]

theorem record_capped (s : State) (o : Outlet) : (capped s).record o = s.record o := by
  have records : (capped s).dispatcher.records = s.dispatcher.records := by
    simp only [capped, State.capStage, dispatcher_fundsStage]
  simp only [State.record, records]

theorem demand_capped (s : State) (o : Outlet) :
    (capped s).demand o = ((s.exchange o).heldReport.map (·.requested)).getD 0 := by
  rw [State.demand, exchange_congr (s := s) (by simp [capped])]

/-- A dispatch's records are those of stages 5 and 6, but for the excess counters. -/
theorem record_dispatch (s : State) (o : Outlet) :
    { s.dispatch.record o with excess := 0 } = { (capped s).ceilingStage.grantStage.record o with excess := 0 } :=
  record_of_keepsGrants (keepsGrants_dispatch s) o

theorem fields_of_record {a b : DispatchRecord} (h : { a with excess := 0 } = { b with excess := 0 }) :
    a.demand = b.demand ∧ a.ceiling = b.ceiling ∧ a.minimum = b.minimum ∧ a.grant = b.grant ∧ a.admission = b.admission := by
  rw [DispatchRecord.mk.injEq] at h
  obtain ⟨demand, ceiling, minimum, grant, admission, _⟩ := h
  exact ⟨demand, ceiling, minimum, grant, admission⟩

theorem fields_dispatch (s : State) (o : Outlet) :
    (s.dispatch.record o).demand = ((capped s).ceilingStage.grantStage.record o).demand ∧
      (s.dispatch.record o).ceiling = ((capped s).ceilingStage.grantStage.record o).ceiling ∧
      (s.dispatch.record o).minimum = ((capped s).ceilingStage.grantStage.record o).minimum ∧
      (s.dispatch.record o).grant = ((capped s).ceilingStage.grantStage.record o).grant ∧
      (s.dispatch.record o).admission = ((capped s).ceilingStage.grantStage.record o).admission :=
  fields_of_record (record_dispatch s o)

theorem grant_dispatch (s : State) (o : Outlet) : (s.dispatch.record o).grant = ((capped s).ceilingStage.grantStage.record o).grant :=
  (fields_dispatch s o).2.2.2.1

theorem admission_dispatch (s : State) (o : Outlet) :
    (s.dispatch.record o).admission = ((capped s).ceilingStage.grantStage.record o).admission :=
  (fields_dispatch s o).2.2.2.2

theorem dispatch_eq (s : State) : s.dispatch = (capped s).ceilingStage.grantStage.moduleStage := rfl

theorem isCharging_ceilingStage (s : State) (o : Outlet) : (capped s).ceilingStage.isCharging o = s.fundsStage.isCharging o :=
  isCharging_congr (by simp [capped]) o

/-- R125: an outlet without a charging session keeps what stage 4 wrote. -/
theorem record_grantStage_idle {t : State} {o : Outlet} (idle : t.isCharging o = false) : t.grantStage.record o = t.record o := by
  rw [record_grantStage, State.grantRecord, isSome_chargingSession, idle]
  rfl

theorem record_grantStage_fields (t : State) (o : Outlet) : (t.grantStage.record o).demand = (t.record o).demand ∧
    (t.grantStage.record o).ceiling = (t.record o).ceiling ∧ (t.grantStage.record o).minimum = (t.record o).minimum := by
  rw [record_grantStage, State.grantRecord]
  split_ifs <;> exact ⟨rfl, rfl, rfl⟩

theorem record_dispatch_idle {s : State} {o : Outlet} (idle : s.fundsStage.isCharging o = false) :
    s.dispatch.record o = if s.present o then { DispatchRecord.starting with demand := (capped s).demand o } else s.record o := by
  have idle' : (capped s).ceilingStage.isCharging o = false := (isCharging_ceilingStage s o).trans idle
  have charging : (capped s).chargingSession o = none := by
    have := isSome_chargingSession (capped s) o
    rw [isCharging_congr (sessions_capped s), idle] at this
    exact Option.not_isSome_iff_eq_none.1 (by simp [this])
  have granted : (capped s).ceilingStage.grantStage.isCharging o = false := by
    rw [isCharging_congr (sessions_grantStage _)]
    exact idle'
  rw [dispatch_eq, record_moduleStage_of_idle granted, record_grantStage_idle (t := (capped s).ceilingStage) idle',
    record_ceilingStage, State.ceilingRecord, charging]
  simp only [present_congr (control_capped s), record_capped]

theorem healthy_iff (m : Module) : m.healthy = true ↔ m.leaving = false ∧ m.state ≠ .outOfService ∧ ∀ r, m.state ≠ .faulted r := by
  unfold Module.healthy
  cases m.state <;> simp

theorem record_dispatch_charging {s : State} {o : Outlet} {ses : Session} (h : s.fundsStage.slot o = some ses)
    (st : ses.state = .charging) : (s.dispatch.record o).demand = (capped s).demand o ∧
      (s.dispatch.record o).ceiling = (capped s).ceiling o ses ∧
      (s.dispatch.record o).minimum = min ((s.outletItems o).minimum.getD 0) ((capped s).ceiling o ses) := by
  have charging : (capped s).chargingSession o = some ses :=
    chargingSession_eq_some.2 ⟨(slot_congr (sessions_capped s) o).trans h, st⟩
  have stage4 : (capped s).ceilingStage.record o = { (capped s).record o with
      demand := (capped s).demand o
      ceiling := (capped s).ceiling o ses
      minimum := min (((capped s).outletItems o).minimum.getD 0) ((capped s).ceiling o ses) } := by
    rw [record_ceilingStage, State.ceilingRecord, charging]
  obtain ⟨demand, ceiling, minimum⟩ := record_grantStage_fields (capped s).ceilingStage o
  obtain ⟨demand', ceiling', minimum', _⟩ := fields_dispatch s o
  rw [demand', ceiling', minimum', demand, ceiling, minimum, stage4, outletItems_congr (control_capped s)]
  exact ⟨by simp only, by simp only, by simp only⟩

/-- R122: the six terms of the ceiling. -/
theorem ceiling_capped (s : State) (o : Outlet) (ses : Session) : (capped s).ceiling o ses =
    min (((s.exchange o).heldReport.map (·.requested)).getD 0) (min ((s.outletItems o).maximum.getD 0)
      (min ((s.outletItems o).moduleLimit * s.control.park.moduleRating.getD 0)
        (min (s.control.park.moduleRating.getD 0 *
            allModules.countP fun m => (s.fundsStage.module m).healthy && OutletSet.has (s.fundsStage.module m).reach o)
          (min (ses.fundsLimit s.clock.parkTime s.control.park.guardEnergy s.control.park.cyclePeriod)
            ((s.link o).published + (s.outletItems o).ramp.getD 0))))) := by
  rw [State.ceiling, demand_capped, outletItems_congr (control_capped s), rating_congr (control_capped s), State.reachCapacity,
    rating_congr (control_capped s), control_capped, link_congr (s := s) (by simp [capped])]
  have clock : (capped s).clock = s.clock := by simp [capped]
  rw [clock]
  simp only [module_congr (pool_capped s)]
  rfl

theorem fundsLimit_eq {ses : Session} {parkTime guard period energy : Nat} (he : ses.energyHeadroom parkTime = energy) :
    ses.fundsLimit parkTime guard period = if energy ≤ guard then 0 else min ((energy - guard) * 36000 / period) 40000 := by
  rw [Session.fundsLimit, he]
  rfl

/-- R118, R120: the cap and A, which the later stages leave. -/
theorem cap_granted (s : State) :
    (capped s).ceilingStage.grantStage.dispatcher.effectiveCap =
        formCap s.fundsStage.targetInForce s.dispatcher.effectiveCap (s.control.park.siteRamp.getD 0) ∧
      (capped s).ceilingStage.grantStage.dispatcher.available =
        availablePower (formCap s.fundsStage.targetInForce s.dispatcher.effectiveCap (s.control.park.siteRamp.getD 0))
          s.fundsStage.poolCapacity s.control.park.auxReserve ∧
      (capped s).ceilingStage.grantStage.dispatcher.capTarget = s.dispatcher.capTarget := by
  refine ⟨?_, ?_, ?_⟩ <;>
    simp only [State.grantStage, State.ceilingStage, capped, State.capStage, control_fundsStage, dispatcher_fundsStage]

theorem poolCapacity_fundsStage (s : State) : s.fundsStage.poolCapacity =
    s.control.park.moduleRating.getD 0 * allModules.countP fun m => (s.fundsStage.module m).healthy := by
  rw [State.poolCapacity, State.rating, control_fundsStage]

/-- Settles O43: the stages before the grants, read off the state that stage 3 leaves. -/
theorem availablePowerFormed : Obligations.AvailablePowerFormed := by
  refine ⟨healthy_iff, fun s o demand hd => ⟨fun idle => ⟨fun present => ?_, fun absent => ?_⟩,
    fun ses rating price money energy funds healthy h st hr hp hm he hf hh => ?_⟩, fun s target healthy ht hh => ?_⟩
  · rw [record_dispatch_idle idle, if_pos present, demand_capped, hd]
    rfl
  · rw [record_dispatch_idle idle, if_neg (by simp [absent])]
  · obtain ⟨demand', ceiling, minimum⟩ := record_dispatch_charging h st
    refine ⟨by rw [demand', demand_capped, hd], ?_, by rw [minimum, ceiling]⟩
    rw [ceiling, ceiling_capped, fundsLimit_eq (energyHeadroom_eq hp hm he), hd, hr, hf, hh]
  · obtain ⟨available, cap, capTarget⟩ := available_of_keepsGrants (keepsGrants_dispatch s)
    have inForce : s.fundsStage.targetInForce = target := by
      rw [ht, State.targetInForce, dispatcher_fundsStage, control_fundsStage] <;> rfl
    obtain ⟨cap', available', capTarget'⟩ := cap_granted s
    have formed : s.dispatch.dispatcher.effectiveCap =
        formCap target s.dispatcher.effectiveCap (s.control.park.siteRamp.getD 0) := by
      rw [← inForce, ← cap']
      exact cap
    have power : s.dispatch.dispatcher.available = min s.dispatch.dispatcher.effectiveCap
        (s.control.park.moduleRating.getD 0 * healthy) - s.control.park.auxReserve := by
      rw [formed, hh, ← poolCapacity_fundsStage, ← inForce]
      exact available.trans available'
    refine ⟨fun low => formed.trans (if_pos low), fun high => formed.trans (if_neg (Nat.not_le.2 high)), ?_, capTarget.trans capTarget'⟩
    rw [power]
    omega

/-! ### Admission, R124 and R125 -/

/-- The claims a dispatch admits, as its last state shows them. -/
theorem admitted_dispatch {s t : State} (ht : t = s.dispatch) :
    admitClaims t.dispatcher.available 0 t.serviceOrder =
      admitClaims (capped s).ceilingStage.dispatcher.available 0 (capped s).ceilingStage.serviceOrder := by
  obtain ⟨available, _, _⟩ := available_of_keepsGrants (keepsGrants_dispatch s)
  rw [ht, serviceOrder_dispatch, available]
  rfl

theorem sessions_dispatch (s : State) : s.dispatch.sessions = s.fundsStage.sessions := by
  rw [State.dispatch, sessions_moduleStage, sessions_grantStage, sessions_ceilingStage, sessions_capStage]

theorem any_outlet_iff {l : List Claim} {o : Outlet} : (l.any fun c => c.outlet == o) = true ↔ ∃ c ∈ l, c.outlet = o := by
  simp [List.any_eq_true]

/-- Settles O44: the order by its lemmas, the admission by stage 5. -/
theorem admissionWalksTheOrder : Obligations.AdmissionWalksTheOrder := by
  refine ⟨fun s => ⟨mem_serviceOrder s, serviceOrder_nodup s, fun c hc => ?_, serviceOrder_pairwise s⟩,
    fun s t admitted ht ha => ⟨ht ▸ sessions_dispatch s, fun o charging => ?_⟩, fun A order => ?_⟩
  · obtain ⟨ses, slot, st, cls, stamp, minimum, ceiling⟩ := claim_of_mem hc
    exact ⟨minimum, ceiling, ses, slot, st, cls, fun start hs => by rw [stamp, hs]; rfl⟩
  · rw [admitted_dispatch ht] at ha
    have charging' : ((capped s).ceilingStage.chargingSession o).isSome = true := by
      rw [isSome_chargingSession, isCharging_ceilingStage, ← isCharging_congr (sessions_dispatch s), ← ht]
      exact charging
    rw [ht, admission_dispatch, grant_dispatch, record_grantStage, State.grantRecord, if_pos charging', ← ha]
    refine ⟨fun among => ?_, fun others => ?_⟩
    · rw [if_pos (any_outlet_iff.2 among)]
    · rw [if_neg fun h => ?_]
      · exact ⟨rfl, rfl⟩
      · obtain ⟨c, hc, e⟩ := any_outlet_iff.1 h
        exact others c hc e
  · obtain ⟨queued, split, fits, next⟩ := admitClaims_append A order 0
    refine ⟨queued, split, ?_, fun c rest hq => ?_⟩
    · have := fits (Nat.zero_le A)
      rwa [Nat.zero_add] at this
    · have := next c rest hq
      rwa [Nat.zero_add] at this

/-! ### Sharing, R126 and R127 -/

theorem amountFor_cons_self (o : Outlet) (x : Nat) (l : List (Outlet × Nat)) : amountFor ((o, x) :: l) o = x := by
  simp [amountFor]

theorem amountFor_cons_other {o p : Outlet} (x : Nat) (l : List (Outlet × Nat)) (ne : p ≠ o) :
    amountFor ((p, x) :: l) o = amountFor l o := by
  simp [amountFor, ne]

theorem amountFor_same (share : Nat) : ∀ {l : List Claim} {c : Claim}, c ∈ l →
    amountFor (l.map fun d => (d.outlet, share)) c.outlet = share
  | d :: rest, c, h => by
    rw [List.map_cons]
    by_cases e : d.outlet = c.outlet
    · rw [e, amountFor_cons_self]
    · have : c ∈ rest := (List.mem_cons.1 h).resolve_left fun h => e (h ▸ rfl)
      rw [amountFor_cons_other _ _ e, amountFor_same share this]

/-- R126: the shares of a sorted class add up to what it began with less what it ends with, and give each claim its room up to one
common level; with a room above the level less than one step a claim is left. -/
theorem shareOut_level : ∀ (l : List Claim) (e : Nat), l.Pairwise (fun a b => a.room ≤ b.room) → (l.map (·.outlet)).Nodup →
    ((shareOut l e).1.map (·.2)).sum + (shareOut l e).2 = e ∧
      ∃ level, e / l.length ≤ level ∧ (∀ c ∈ l, amountFor (shareOut l e).1 c.outlet = min c.room level) ∧
        ((∃ c ∈ l, level < c.room) → (shareOut l e).2 < l.length)
  | [], e, _, _ => ⟨by simp [shareOut], 0, by simp, by simp, by simp⟩
  | c :: rest, e, sorted, nodup => by
    obtain ⟨least, sorted'⟩ := List.pairwise_cons.1 sorted
    rw [List.map_cons, List.nodup_cons] at nodup
    obtain ⟨fresh, nodup'⟩ := nodup
    have shareLe : (rest.length + 1) * (e / (rest.length + 1)) ≤ e := Nat.mul_div_le e _
    unfold shareOut
    simp only [List.length_cons]
    split
    next fits =>
      obtain ⟨sum, level, above, amounts, left⟩ := shareOut_level rest (e - c.room) sorted' nodup'
      have roomLe : c.room ≤ e := fits.trans (Nat.div_le_self _ _)
      refine ⟨by rw [List.map_cons, List.sum_cons]; omega, max level (e / (rest.length + 1)), le_max_right _ _, fun d hd => ?_, ?_⟩
      · have rises : rest ≠ [] → e / (rest.length + 1) ≤ level := by
          intro ne
          refine le_trans ((Nat.le_div_iff_mul_le (List.length_pos_iff.2 ne)).2 ?_) above
          rw [Nat.add_mul, Nat.one_mul, Nat.mul_comm] at shareLe
          omega
        rcases List.mem_cons.1 hd with rfl | hd'
        · rw [amountFor_cons_self]
          omega
        · have other : c.outlet ≠ d.outlet := fun e => fresh (e ▸ List.mem_map_of_mem hd')
          rw [amountFor_cons_other _ _ other, amounts d hd', max_eq_left (rises (List.ne_nil_of_mem hd'))]
      · rintro ⟨d, hd, room⟩
        rcases List.mem_cons.1 hd with rfl | hd'
        · omega
        · have := left ⟨d, hd', by omega⟩
          omega
    next short =>
      refine ⟨?_, e / (rest.length + 1), le_rfl, fun d hd => ?_, fun _ => ?_⟩
      · simp only [List.map_map, Function.comp_def, List.map_const', List.sum_replicate, List.length_cons, smul_eq_mul]
        omega
      · rw [amountFor_same _ hd]
        rcases List.mem_cons.1 hd with rfl | hd'
        · omega
        · have := least d hd'
          omega
      · have := Nat.mod_lt e (Nat.succ_pos rest.length)
        have := Nat.div_add_mod e (rest.length + 1)
        simp only [Nat.succ_eq_add_one] at *
        omega

theorem roomBefore_total (a b : Claim) (h : Claim.roomBefore a b = false) : Claim.roomBefore b a = true := by
  simp only [Claim.roomBefore, decide_eq_false_iff_not, decide_eq_true_eq] at *
  omega

theorem roomBefore_trans (a b c : Claim) (h : Claim.roomBefore a b = true) (h' : Claim.roomBefore b c = true) :
    Claim.roomBefore a c = true := by
  simp only [Claim.roomBefore, decide_eq_true_eq] at *
  omega

theorem sorted_byRoom (l : List Claim) : (sortBy Claim.roomBefore l).Pairwise fun a b => a.room ≤ b.room :=
  (pairwise_sortBy roomBefore_total roomBefore_trans l).imp fun h => of_decide_eq_true h

theorem nodup_byRoom {l : List Claim} (h : (l.map (·.outlet)).Nodup) : ((sortBy Claim.roomBefore l).map (·.outlet)).Nodup :=
  ((sortBy_perm Claim.roomBefore l).map _).nodup_iff.2 h

/-- A claim is known by its outlet. -/
theorem claim_eq_of_outlet {l : List Claim} (nodup : (l.map (·.outlet)).Nodup) {c d : Claim} (hc : c ∈ l) (hd : d ∈ l)
    (e : c.outlet = d.outlet) : c = d := List.inj_on_of_nodup_map nodup hc hd e

/-- R126: the amount shared to a claim is its own class's. -/
theorem amountFor_shares {admitted : List Claim} (nodup : (admitted.map (·.outlet)).Nodup) {c : Claim} (hc : c ∈ admitted) (e : Nat) :
    (c.cls = 2 → amountFor (shares admitted e) c.outlet = amountFor (shareClass admitted 2 e).1 c.outlet) ∧
      (c.cls = 1 → amountFor (shares admitted e) c.outlet =
        amountFor (shareClass admitted 1 (shareClass admitted 2 e).2).1 c.outlet) ∧
      (c.cls = 0 → amountFor (shares admitted e) c.outlet =
        amountFor (shareClass admitted 0 (shareClass admitted 1 (shareClass admitted 2 e).2).2).1 c.outlet) := by
  have own (cls e' : Nat) : (∃ n, (c.outlet, n) ∈ (shareClass admitted cls e').1) ↔ c.cls = cls := by
    rw [mem_shareClass]
    refine ⟨fun ⟨d, hd, cls', same⟩ => ?_, fun h => ⟨c, hc, h, rfl⟩⟩
    rw [claim_eq_of_outlet nodup hc hd same.symm]
    exact cls'
  simp only [shares, List.append_assoc]
  refine ⟨fun h => ?_, fun h => ?_, fun h => ?_⟩
  · exact (amountFor_append _ _ _).1 ((own 2 e).2 h)
  · rw [(amountFor_append _ _ _).2 (by rw [own]; omega)]
    exact (amountFor_append _ _ _).1 ((own 1 _).2 h)
  · rw [(amountFor_append _ _ _).2 (by rw [own]; omega), (amountFor_append _ _ _).2 (by rw [own]; omega)]

theorem admitClaims_sublist (available sum : Nat) (l : List Claim) : (admitClaims available sum l).Sublist l := by
  obtain ⟨queued, split, _⟩ := admitClaims_append available l sum
  exact (List.sublist_append_left _ queued).trans (by rw [← split])

/-- R127: an admitted session's grant is its minimum and what it was given. -/
theorem grant_admitted {s t : State} {admitted : List Claim} (ht : t = s.dispatch)
    (ha : admitted = admitClaims t.dispatcher.available 0 t.serviceOrder) {c : Claim} (hc : c ∈ admitted) :
    (t.record c.outlet).grant =
      c.minimum + amountFor (shares admitted (t.dispatcher.available - (admitted.map (·.minimum)).sum)) c.outlet := by
  have available : t.dispatcher.available = (capped s).ceilingStage.dispatcher.available := by
    rw [ht, (available_of_keepsGrants (keepsGrants_dispatch s)).1]
    rfl
  rw [admitted_dispatch ht] at ha
  have ordered : c ∈ (capped s).ceilingStage.serviceOrder := (admitClaims_sublist _ _ _).subset (ha ▸ hc)
  obtain ⟨ses, slot, st, _, _, minimum, _⟩ := claim_of_mem ordered
  have charging : ((capped s).ceilingStage.chargingSession c.outlet).isSome = true := by
    rw [chargingSession_eq_some.2 ⟨slot, st⟩]
    rfl
  rw [available, ht, grant_dispatch, record_grantStage, State.grantRecord, if_pos charging, ← ha,
    if_pos (any_outlet_iff.2 ⟨c, hc, rfl⟩), minimum]

/-- Settles O45: grants by stage 6, the class amounts by the common level of `shareOut_level`. -/
theorem powerSharedWithinRooms : Obligations.PowerSharedWithinRooms := by
  refine ⟨fun s t admitted e2 e1 e0 ht ha h2 h1 h0 c hc => ?_, fun claims e cls => ?_, fun claims e cls nodup same => ?_⟩
  · have nodup : (admitted.map (·.outlet)).Nodup := by
      rw [ha]
      exact ((admitClaims_sublist _ _ _).map _).nodup (serviceOrder_nodup t)
    obtain ⟨two, one, zero⟩ := amountFor_shares nodup hc (t.dispatcher.available - (admitted.map (·.minimum)).sum)
    rw [grant_admitted ht ha hc, h0, h1, h2]
    exact ⟨fun h => by rw [two h], fun h => by rw [one h], fun h => by rw [zero h]⟩
  · simp [shareClass, List.filter_filter]
  · have whole : claims.filter (fun c => c.cls == cls) = claims :=
      List.filter_eq_self.2 fun c hc => beq_iff_eq.2 (same c hc).1
    have shared : shareClass claims cls e = shareOut (sortBy Claim.roomBefore claims) e := by rw [shareClass, whole]
    obtain ⟨sum, level, _, amounts, left⟩ := shareOut_level _ e (sorted_byRoom claims) (nodup_byRoom nodup)
    rw [(sortBy_perm Claim.roomBefore claims).length_eq] at left
    have amount : ∀ c ∈ claims, amountFor (shareClass claims cls e).1 c.outlet = min (c.ceiling - c.minimum) level :=
      fun c hc => by rw [shared]; exact amounts c (mem_sortBy.2 hc)
    refine ⟨by rw [shared]; exact sum, fun o => ?_, fun c hc => ?_, fun c hc below d hd => ?_, fun ⟨c, hc, below⟩ => ?_⟩
    · rw [mem_shareClass]
      exact ⟨fun ⟨c, hc, _, e⟩ => ⟨c, hc, e⟩, fun ⟨c, hc, e⟩ => ⟨c, hc, (same c hc).1, e⟩⟩
    · rw [amount c hc]
      exact min_le_left _ _
    · rw [amount c hc] at below ⊢
      rw [amount d hd]
      omega
    · rw [amount c hc] at below
      rw [shared]
      exact left ⟨c, mem_sortBy.2 hc, by show level < c.ceiling - c.minimum; omega⟩

/-! ### Requests and releases, R128 to R131 and R137 -/

theorem selectModule_some {s : State} {o : Outlet} {m : ModuleNo} (free : (s.module m).state = .free)
    (reach : OutletSet.has (s.module m).reach o = true)
    (before : ∀ k, k < m → (s.module k).state = .free → OutletSet.has (s.module k).reach o = false) : s.selectModule o = some m := by
  refine (find?_eq_some_least _ _ allModules_pairwise_lt m).2 ⟨mem_allModules m, by simp [free, reach], fun k _ lt => ?_⟩
  by_cases h : (s.module k).state = .free
  · simp [before k lt h]
  · simp [h]

theorem selectModule_none {s : State} {o : Outlet}
    (none' : ∀ m, (s.module m).state = .free → OutletSet.has (s.module m).reach o = false) : s.selectModule o = none := by
  refine List.find?_eq_none.2 fun m _ => ?_
  by_cases h : (s.module m).state = .free
  · simp [none' m h]
  · simp [h]

/-- R128: the target is the grant divided by the rating, rounded up. -/
theorem moduleTarget_eq {s : State} {o : Outlet} {target : Nat}
    (low : target * s.rating < (s.record o).grant + s.rating) (high : (s.record o).grant ≤ target * s.rating) :
    s.moduleTarget o = target := by
  unfold State.moduleTarget
  refine Nat.div_eq_of_lt_le ?_ ?_
  · omega
  · rw [Nat.add_mul]
    omega

theorem highestActive_some {s : State} {o : Outlet} {m : ModuleNo} (active : (s.module m).state = .active o)
    (after : ∀ k, m < k → (s.module k).state ≠ .active o) : s.highestActive o = some m := by
  have falling : allModules.reverse.Pairwise (· > ·) := List.pairwise_reverse.2 allModules_pairwise_lt
  unfold State.highestActive
  cases h : allModules.reverse.find? fun k => (s.module k).state == .active o with
  | none => exact absurd (beq_iff_eq.2 active) (List.find?_eq_none.1 h m (List.mem_reverse.2 (mem_allModules m)))
  | some k =>
    have found : (s.module k).state = .active o := beq_iff_eq.1 (List.find?_some (p := fun k => (s.module k).state == .active o) h)
    obtain ⟨_, before, rest, split, passed⟩ := List.find?_eq_some_iff_append.1 h
    have hm : m ∈ before ++ k :: rest := split ▸ List.mem_reverse.2 (mem_allModules m)
    rw [split, List.pairwise_append, List.pairwise_cons] at falling
    rcases List.mem_append.1 hm with hm | hm
    · have := passed m hm
      simp [active] at this
    · rcases List.mem_cons.1 hm with rfl | hm
      · rfl
      · exact absurd found (after k (falling.2.1.1 m hm))

theorem highestActive_none {s : State} {o : Outlet} (none' : ∀ m, (s.module m).state ≠ .active o) : s.highestActive o = none :=
  List.find?_eq_none.2 fun m _ => by simp [none' m]

/-- Settles O41: the searches in rising and in falling order, the target, and the stages of a dispatch. -/
theorem modulesRequestedAndReleased : Obligations.ModulesRequestedAndReleased := by
  refine ⟨fun s o => ⟨fun m free reach before => ?_, fun none' => ?_⟩, fun s g hg => ⟨?_, ?_, ?_, fun o => ?_⟩,
    fun s c target _ low high => ?_, fun o d ooc => ⟨rfl, rfl, rfl, rfl, rfl⟩,
    fun s c target count _ low high hcount => ⟨fun stays => ?_, fun m due active after => ?_⟩⟩
  · simp only [State.requestModule, selectModule_some free reach before]
  · simp only [State.requestModule, selectModule_none none', satAdd]
  · rw [hg]
    rfl
  · rw [hg, pool_grantStage, pool_ceilingStage, pool_capStage]
  · rw [hg, sessions_grantStage, sessions_ceilingStage, sessions_capStage]
  · rw [hg]
    exact grant_dispatch s o
  · simp only [State.requestFor, requestMany_eq, moduleTarget_eq low high, State.holding]
  · have counted : s.countedExcess c.outlet = count := by
      rw [State.countedExcess, moduleTarget_eq low high, hcount]
    simp only [State.excessFor, counted]
    rcases stays with early | none'
    · rw [if_neg (Nat.not_le.2 early)]
    · simp only [highestActive_none none', ite_self]
  · have counted : s.countedExcess c.outlet = count := by
      rw [State.countedExcess, moduleTarget_eq low high, hcount]
    simp only [State.excessFor, counted, if_pos due, highestActive_some active after]
    rfl

end Sys2Proof.Proofs.Dispatching
end

section
/-! Frames on the pedestal line (R96 to R103): the report accepted, and what is discarded. -/

namespace Sys2Proof.Proofs.LineFrames

open Sys2Proof.Machine Sys2Proof.Safety Sys2Proof.Laws
open Sys2Proof.Proofs.Stepping

/-! ### The exchange's buffers, R102 and R103 -/

theorem getElem_emptied (buffers : Vector (Option Report) 3) (role : Option (Fin 3)) (b : Fin 3) :
    (emptied buffers role)[b] = if role = some b then none else buffers[b] := by
  cases role with
  | none => rfl
  | some c => simp only [emptied, Fin.getElem_fin, Vector.getElem_set, Option.some.injEq, Fin.ext_iff]

theorem used_iff (x : Exchange) (b : Fin 3) : x.used b = true ↔ b = x.writing ∨ x.latest = some b ∨ x.held = some b := by
  simp [Exchange.used, or_assoc]

/-- R103: what accepting a report leaves. -/
theorem accept_spec (x : Exchange) (r : Report) : (x.accept r).latest = some x.writing ∧ (x.accept r).held = x.held ∧
    (x.accept r).buffers[x.writing] = some r ∧
    (∀ b, b ≠ x.writing → (x.accept r).buffers[b] = if x.latest = some b then none else x.buffers[b]) ∧
    (x.accept r).writing ≠ x.writing ∧ x.held ≠ some (x.accept r).writing ∧
    ∀ b, b < (x.accept r).writing → b = x.writing ∨ x.held = some b := by
  obtain ⟨free, before⟩ := lowestFree_spec { x with
    buffers := (emptied x.buffers x.latest).set x.writing (some r), latest := some x.writing } rfl
  have free' := fun h => Bool.eq_false_iff.1 free ((used_iff _ _).2 h)
  refine ⟨rfl, rfl, by simp [Exchange.accept], fun b ne => ?_, fun e => free' (.inl e), fun e => free' (.inr (.inr e)), fun b lt => ?_⟩
  · have other : ((emptied x.buffers x.latest).set x.writing (some r))[b] = (emptied x.buffers x.latest)[b] :=
      Vector.getElem_set_ne _ _ fun e => ne (Fin.ext e.symm)
    exact other.trans (getElem_emptied _ _ _)
  · rcases (used_iff _ _).1 (before b lt) with e | e | e
    · exact .inl e
    · exact .inl (Option.some.inj e).symm
    · exact .inr e

/-! ### Frames that can end, R98 and R99 -/

theorem canEnd_of {l : LineController} {addr : Byte} (idle : l.sending = none) (rx : l.rx = .waiting ∨ l.rx = .assembling addr) :
    l.canEnd addr = true := by
  rcases rx with h | h <;> simp [LineController.canEnd, idle, h]

theorem acceptable_some {s : State} {o : Outlet} {body : List Byte} {st : PedestalState} (check : reportCheckOk body = true)
    (present : s.present o = true) (mode : s.control.mode = .operating)
    (code : PedestalState.ofCode (byteAt body 2).toNat = some st) :
    s.acceptable o body = some
      { echo := fieldAt body 0 2
        state := st
        stopPressed := (byteAt body 3).getLsbD 0
        requested := min (fieldAt body 4 2) 40000
        measured := min (fieldAt body 6 2) 40000
        meter := fieldAt body 8 4 } := by
  rw [State.acceptable, if_pos ⟨check, present, mode⟩, reportOf, code]
  rfl

theorem acceptable_none {s : State} {o : Outlet} {body : List Byte}
    (bad : PedestalState.ofCode (byteAt body 2).toNat = none ∨ s.present o = false ∨ s.control.mode = .maintenance ∨
      body.drop 12 ≠ toBytes 2 (frameCheck (body.take 12))) : s.acceptable o body = none := by
  unfold State.acceptable
  split
  next good =>
    obtain ⟨check, present, mode⟩ := good
    rcases bad with h | h | h | h
    · rw [reportOf, h]; rfl
    · rw [present] at h; cases h
    · rw [mode] at h; cases h
    · exact absurd (beq_iff_eq.1 check) h
  next => rfl

/-- R102, R103: in MAINTENANCE the WRITING role of a discarded frame's outlet passes to buffer 0. -/
theorem discardFrame_eq (s : State) (o : Outlet) : s.discardFrame o =
    if s.control.mode = .maintenance then s.setExchange o { s.exchange o with writing := 0 } else s := rfl

/-- Settles O46: the frame judged, accepted by `accept_spec` or discarded and counted. -/
theorem reportJudged : Obligations.ReportJudged := by
  intro s o body ended held idle rx
  have ends : s.line.canEnd (addressOf o) = true := canEnd_of idle rx
  refine ⟨exec_happens rfl (by simp) (by simp) held (if_pos ends), fun st done code present mode check => ?_, fun done bad => ?_⟩
  · have accepted := acceptable_some (beq_iff_eq.2 check) present mode code
    obtain ⟨r, hr⟩ : ∃ r : Report, r =
      { echo := fieldAt body.toList 0 2
        state := st
        stopPressed := (byteAt body.toList 3).getLsbD 0
        requested := min (fieldAt body.toList 4 2) 40000
        measured := min (fieldAt body.toList 6 2) 40000
        meter := fieldAt body.toList 8 4 } := ⟨_, rfl⟩
    rw [← hr] at accepted ⊢
    obtain ⟨latest, heldRole, own, others, writing, notHeld, before⟩ := accept_spec (s.exchange o) r
    refine ⟨(s.setExchange o ((s.exchange o).accept r)).setRx (afterFrame (addressOf o) ended),
      exec_happens rfl (by simp) (by simp) held ?_, ?_⟩
    · simp only [eventEffect, State.reportFrame, if_pos ends, if_neg done, State.judgeReport, accepted]
    · rw [exchange_setRx, exchange_setExchange, if_pos rfl]
      refine ⟨latest, own, others, heldRole, writing, notHeld, before, fun p ne => ?_, ?_⟩
      · rw [exchange_setRx, exchange_setExchange, if_neg (Ne.symm ne)]
      · cases ended with
        | notYet => exact absurd rfl done
        | _ => rfl
  · refine exec_happens rfl (by simp) (by simp) held ?_
    simp only [eventEffect, State.reportFrame, if_pos ends, if_neg done, State.judgeReport, acceptable_none bad]
    cases ended with
    | notYet => exact absurd rfl done
    | _ => rfl

/-! ### Frames discarded for other reasons, R97 to R99 -/

theorem line_discardFrame' (s : State) (o : Outlet) : (s.discardFrame o).line = s.line := by
  unfold State.discardFrame
  split <;> rfl

theorem reportDiscard_length {s : State} {o : Outlet} {chars : Nat} {ended : FrameEnd} (ends : s.line.canEnd (addressOf o) = true)
    (wrong : lengthDiscards chars ended = true) :
    s.reportDiscard o chars ended = (s.countDiscard o).setRx (afterFrame (addressOf o) ended) := by
  rw [State.reportDiscard, if_pos ends, if_pos wrong]

theorem outletOf_addressOf (o : Outlet) : outletOf (addressOf o) = some o := by revert o; decide

/-- R97: what a rejected character discards. -/
theorem discardAssembling_eq {s b : State}
    (h : (s.control.mode = .operating ∨ s.line.rx = .waiting ∨ (∃ a, s.line.rx = .assembling a ∧ 16 ≤ a.toNat)) ∧ b = s ∨
      (∃ o : Outlet, s.control.mode = .maintenance ∧ s.line.rx = .assembling (BitVec.ofNat 8 o.val) ∧
        b = s.setExchange o { s.exchange o with writing := 0 })) : s.discardAssembling = b := by
  unfold State.discardAssembling
  rcases h with ⟨mode | rx | ⟨a, rx, high⟩, rfl⟩ | ⟨o, mode, rx, rfl⟩
  · have kept (o : Outlet) : b.discardFrame o = b := by rw [State.discardFrame, mode]; rfl
    cases b.line.rx with
    | assembling a => cases ha : outletOf a <;> simp only [ha, kept]
    | _ => rfl
  · rw [rx]
  · rw [rx]
    simp only [outletOf_eq_none high]
  · rw [rx]
    have found : outletOf (BitVec.ofNat 8 o.val) = some o := outletOf_addressOf o
    simp only [found, State.discardFrame, mode, if_true]

theorem rejectCharacter_eq {s b : State} (framing : Bool) (idle : s.line.sending = none) (rx : s.line.rx ≠ .awaitingHigh)
    (discarded : s.discardAssembling = b) (line : b.line = s.line) : s.rejectCharacter framing =
      { b with line := { s.line with
        rx := if framing then .awaitingHigh else .waiting, lineErrors := min (s.line.lineErrors + 1) max32 } } := by
  have reached : (s.line.sending.isNone && s.line.rx != .awaitingHigh) = true := by simp [idle, rx]
  rw [State.rejectCharacter, if_pos reached, discarded, ← line]
  rfl

theorem line_of_discarded {s b : State} (h : s.discardAssembling = b) : b.line = s.line := by
  rw [← h]
  unfold State.discardAssembling
  repeat' split
  all_goals first | rfl | exact line_discardFrame' s _

/-- Settles O47: each end of a frame, in the receive states that allow it. -/
theorem framesDiscarded : Obligations.FramesDiscarded := by
  refine ⟨fun s b o chars held idle rx hb => ?_, fun s a held idle high rx => ?_, fun s held idle rx => ?_,
    fun s b held idle rx h => ?_, fun s held rx => ?_⟩
  · have ends : s.line.canEnd (addressOf o) = true := canEnd_of idle rx
    have discarded : s.discardFrame o = b := hb.symm
    have line : b.line = s.line := by rw [← discarded, line_discardFrame']
    have counted : s.countDiscard o = b.setLink o { s.link o with discards := min ((s.link o).discards + 1) max32 } := by
      rw [← discarded]
      rfl
    refine ⟨fun low high => ?_, fun low high a => ?_, fun long => ⟨?_, fun a => ?_⟩, fun low => ?_⟩ <;>
      refine exec_happens rfl (by simp) (by simp) held ?_
    · simp only [eventEffect, State.gapTimeOut, if_pos (And.intro ends (And.intro low high)), discarded]
      rw [← line]
      rfl
    · have wrong : lengthDiscards chars (.address a) = true := decide_eq_true (.inl ⟨low, high⟩)
      exact (reportDiscard_length ends wrong).trans (by rw [counted]; rfl)
    · have wrong : lengthDiscards chars .gap = true := decide_eq_true long
      exact (reportDiscard_length ends wrong).trans (by rw [counted]; rfl)
    · have wrong : lengthDiscards chars (.address a) = true := decide_eq_true (.inr long)
      exact (reportDiscard_length ends wrong).trans (by rw [counted]; rfl)
    · have going : ¬lengthDiscards chars .notYet = true := Bool.false_ne_true
      simp only [eventEffect, State.reportDiscard, if_pos ends, if_neg going, if_pos (And.intro trivial low)]
      rfl
  · have ends : s.line.canEnd a = true := canEnd_of idle rx
    refine ⟨?_, ?_, fun b => ?_⟩ <;>
      exact exec_happens rfl (by simp) (by simp) held ((if_pos ⟨ends, high⟩).trans rfl)
  · have outside : (s.line.sending.isNone && s.line.rx == .waiting) = true := by simp [idle, rx]
    exact exec_happens rfl (by simp) (by simp) held (if_pos outside)
  · have discarded := discardAssembling_eq h
    have line := line_of_discarded discarded
    exact ⟨exec_happens rfl (by simp) (by simp) held (rejectCharacter_eq true idle rx discarded line),
      exec_happens rfl (by simp) (by simp) held (rejectCharacter_eq false idle rx discarded line)⟩
  · exact exec_happens rfl (by simp) (by simp) held (if_pos rx)

end Sys2Proof.Proofs.LineFrames
end

section
/-! The take of an outlet (R43 to R51, R75, R76, R104 to R107): what it does to the exchange, the link and the session. -/

namespace Sys2Proof.Proofs.Takes

open Sys2Proof.Machine Sys2Proof.Safety Sys2Proof.Laws
open Sys2Proof.Proofs.Accounts Sys2Proof.Proofs.SessionEvents Sys2Proof.Proofs.LineFrames

/-! ### A take touches the slot of its own outlet, and no session counter but the service counter -/

section
variable {s : State} {o p : Outlet}

theorem slot_setSlot_other (v : Option Session) (ne : p ≠ o) : (s.setSlot o v).slot p = s.slot p := by
  rw [slot_setSlot, if_neg (Ne.symm ne)]

theorem setSlot_slot (s : State) (o : Outlet) : s.setSlot o (s.slot o) = s := by
  have same : s.sessions.slots.set o s.sessions.slots[o] = s.sessions.slots := by simp
  simp only [State.setSlot, State.slot, same]

theorem slot_setAndRelease (s : State) (o p : Outlet) (ses : Session) :
    (s.setAndRelease o ses).slot p = if o = p then some ses else s.slot p := by
  rw [State.setAndRelease, slot_congr (sessions_outletRelease _ o), slot_setSlot]

theorem slot_suspend (s : State) (o p : Outlet) (ses : Session) (f : Resumable) : (s.suspend o ses f).slot p =
    if o = p then some { ses.leaveParked with
      state := .suspended f (s.clock.elapsed + s.control.park.resumeLimit * 1000) } else s.slot p := by
  rw [State.suspend, slot_raiseOutlet, slot_setAndRelease]

theorem slot_linkLost_other (ne : p ≠ o) : (s.linkLost o).slot p = s.slot p := by
  unfold State.linkLost
  repeat' split
  all_goals simp [slot_suspend, Ne.symm ne]

theorem slot_resume_other (ne : p ≠ o) : (s.resume o).slot p = s.slot p := by
  unfold State.resume
  repeat' split
  all_goals simp [slot_setAndRelease, Ne.symm ne]

theorem slot_firstEntry (s : State) (o p : Outlet) (ses : Session) (r : Report) : (s.firstEntry o ses r).slot p =
    if o = p then some { ses with
      state := .charging
      charge := some { stamp := s.sessions.nextStamp, meterStart := r.meter, lastMeter := r.meter, startTime := s.clock.parkTime }
      feeCharged := ses.tariff.sessionFee } else s.slot p :=
  slot_setSlot s o p _

theorem slot_applyReport_other (r : Report) (ne : p ≠ o) : (s.applyReport o r).slot p = s.slot p := by
  unfold State.applyReport State.applyPedestal
  repeat' split
  all_goals simp [slot_enterStopping_other _ ne, slot_firstEntry, slot_setAndRelease, Ne.symm ne]

theorem slot_recordMeter_other (r : Report) (ne : p ≠ o) : (s.recordMeter o r).slot p = s.slot p := by
  unfold State.recordMeter
  split
  · rfl
  · exact slot_setSlot_other _ ne

theorem slot_overdrawCheck_other (measured : Nat) (ne : p ≠ o) : (s.overdrawCheck o measured).slot p = s.slot p := by
  unfold State.overdrawCheck
  simp only
  repeat' split
  all_goals simp [slot_enterStopping_other _ ne]

theorem slot_sessionFresh_other (r : Report) (ne : p ≠ o) : (s.sessionFresh o r).slot p = s.slot p := by
  unfold State.sessionFresh
  simp only
  split <;> simp [slot_overdrawCheck_other _ ne, slot_recordMeter_other _ ne, slot_applyReport_other _ ne, slot_resume_other ne]

theorem slot_take_other (ne : p ≠ o) : (s.take o).slot p = s.slot p := by
  unfold State.take State.freshTake State.staleTake
  simp only
  repeat' split
  all_goals simp [slot_sessionFresh_other _ ne, slot_linkLost_other ne]

theorem meter_overdrawCheck_other (measured : Nat) (ne : p ≠ o) : (s.overdrawCheck o measured).meter p = s.meter p := by
  have entered (t : State) : (t.enterStopping o .overdraw).meter p = t.meter p := meter_congr (meters_enterStopping t o _) p
  unfold State.overdrawCheck
  simp only
  repeat' split
  all_goals simp [entered, Ne.symm ne]

theorem meter_sessionFresh_other (r : Report) (ne : p ≠ o) : (s.sessionFresh o r).meter p = s.meter p := by
  have recorded (t : State) : (t.recordMeter o r).meter p = t.meter p := meter_congr (meters_recordMeter t o r) p
  have moved : ((s.resume o).applyReport o r).meter p = s.meter p :=
    meter_congr ((meters_applyReport _ o r).trans (meters_resume s o)) p
  unfold State.sessionFresh
  simp only
  split <;> simp [meter_overdrawCheck_other _ ne, recorded, moved]

theorem nextStamp_linkLost (s : State) (o : Outlet) : (s.linkLost o).sessions.nextStamp = s.sessions.nextStamp := by
  unfold State.linkLost
  repeat' split
  all_goals simp [State.suspend, State.setAndRelease]

end

/-! ### The link lost, R50 -/

theorem released_setAndRelease (s : State) (o : Outlet) (ses : Session) : Released s (s.setAndRelease o ses) o :=
  released_congr (released_outletRelease (s.setSlot o (some ses)) o) rfl rfl rfl

/-- R50: a CHARGING or PARKED session is suspended. -/
theorem linkLost_suspends {s : State} {o : Outlet} {ses : Session} {f : Resumable} (h : s.slot o = some ses)
    (st : (ses.state = .charging ∧ f = .charging) ∨ (ses.state = .parked ∧ f = .parked)) : s.linkLost o = s.suspend o ses f := by
  unfold State.linkLost
  rw [h]
  rcases st with ⟨st, rfl⟩ | ⟨st, rfl⟩ <;> simp only [st]

theorem linkLost_keeps {s : State} {o : Outlet} (charging : s.isCharging o = false)
    (parked : ∀ ses, s.slot o = some ses → ses.state ≠ .parked) : s.linkLost o = s := by
  unfold State.linkLost
  cases h : s.slot o with
  | none => rfl
  | some ses =>
    simp only
    split
    next st => exact absurd (isCharging_iff.2 ⟨ses, h, st⟩) (by simp [charging])
    next st => exact absurd st (parked ses h)
    all_goals rfl

/-! ### Fresh and stale takes, R104 and R105 -/

theorem freshReport_some {x : Exchange} {n : Nat} {b : Fin 3} {r : Report} (latest : x.latest = some b)
    (report : x.buffers[b] = some r) (echo : r.echo = n) : x.freshReport n = some r := by
  rw [Exchange.freshReport, latest, Option.bind_some, report, Option.bind_some, if_pos echo]

theorem freshReport_none {x : Exchange} {n : Nat} (stale : ∀ b r, x.latest = some b → x.buffers[b] = some r → r.echo ≠ n) :
    x.freshReport n = none := by
  unfold Exchange.freshReport
  cases latest : x.latest with
  | none => rfl
  | some b =>
    rw [Option.bind_some]
    cases report : x.buffers[b] with
    | none => rfl
    | some r => exact if_neg (stale b r latest report)

theorem exchange_freshTake (s : State) (o p : Outlet) (r : Report) :
    (s.freshTake o r).exchange p = if o = p then (s.exchange o).takeFresh else s.exchange p := by
  rw [State.freshTake, exchange_congr (exchanges_sessionFresh _ o r), exchange_setLink, exchange_setExchange]

theorem line_freshTake (s : State) (o : Outlet) (r : Report) :
    (s.freshTake o r).line = (s.setLink o { s.link o with miss := 0, link := .online }).line := by
  rw [State.freshTake, line_sessionFresh]
  rfl

/-- The exchange and the link after a stale take, before the session hears of it. -/
def afterMiss (s : State) (o : Outlet) : State :=
  (s.setExchange o (s.exchange o).dropLatest).setLink o { s.link o with
    miss := (s.link o).missed, link := if s.becomesUnreachable o then .unreachable else (s.link o).link }

theorem staleTake_eq (s : State) (o : Outlet) : s.staleTake o = if s.becomesUnreachable o then
    ((afterMiss s o).raiseOutlet .outletUnreachable o).linkLost o else afterMiss s o := by
  have twice (t : State) (a b : OutletLink) : (t.setLink o a).setLink o b = t.setLink o b := by simp [State.setLink]
  unfold State.staleTake afterMiss
  cases s.becomesUnreachable o <;> simp [twice]

theorem exchange_staleTake (s : State) (o p : Outlet) :
    (s.staleTake o).exchange p = if o = p then (s.exchange o).dropLatest else s.exchange p := by
  have missed : (afterMiss s o).exchange p = if o = p then (s.exchange o).dropLatest else s.exchange p := by
    rw [afterMiss, exchange_setLink, exchange_setExchange]
  rw [staleTake_eq]
  split
  · rw [exchange_congr (exchanges_linkLost _ o), exchange_raiseOutlet, missed]
  · exact missed

theorem line_staleTake (s : State) (o : Outlet) : (s.staleTake o).line = (afterMiss s o).line := by
  rw [staleTake_eq]
  split
  · rw [line_linkLost]
    rfl
  · rfl

theorem link_afterMiss (s : State) (o p : Outlet) : (afterMiss s o).link p = if o = p then
    { s.link o with miss := (s.link o).missed, link := if s.becomesUnreachable o then .unreachable else (s.link o).link }
    else s.link p :=
  link_setLink (s.setExchange o (s.exchange o).dropLatest) o p _

theorem nextNumber_take (s : State) (o : Outlet) : (s.take o).sessions.nextNumber = s.sessions.nextNumber :=
  congrArg Ledger.next (ledger_take s o)

theorem nextStamp_staleTake (s : State) (o : Outlet) : (s.staleTake o).sessions.nextStamp = s.sessions.nextStamp := by
  rw [staleTake_eq]
  split
  · rw [nextStamp_linkLost]
    rfl
  · rfl

theorem take_fresh {s : State} {o : Outlet} {r : Report} (present : s.present o = true)
    (fresh : (s.exchange o).freshReport s.line.cycleNumber = some r) : s.take o = s.freshTake o r := by
  rw [State.take, if_pos present, fresh]

theorem take_stale {s : State} {o : Outlet} (present : s.present o = true)
    (stale : (s.exchange o).freshReport s.line.cycleNumber = none) : s.take o = s.staleTake o := by
  rw [State.take, if_pos present, stale]

theorem take_absent {s : State} {o : Outlet} (absent : s.present o = false) : s.take o = s := by
  rw [State.take, if_neg (by simp [absent])]

theorem exchange_take_other {s : State} {o p : Outlet} (ne : p ≠ o) : (s.take o).exchange p = s.exchange p := by
  unfold State.take
  split
  · split
    · rw [exchange_freshTake, if_neg (Ne.symm ne)]
    · rw [exchange_staleTake, if_neg (Ne.symm ne)]
  · rfl

/-- A take leaves the line but for the outlet's link. -/
theorem line_take (s : State) (o : Outlet) : ∃ l, (s.take o).line = (s.setLink o l).line := by
  unfold State.take
  split
  · split
    · exact ⟨_, line_freshTake s o _⟩
    · exact ⟨_, line_staleTake s o⟩
  · refine ⟨s.link o, ?_⟩
    have same : s.line.outlets.set o s.line.outlets[o] = s.line.outlets := by simp
    simp only [State.setLink, State.link, same]

theorem link_of_line {s t : State} {o p : Outlet} {l : OutletLink} (h : t.line = (s.setLink o l).line) (ne : p ≠ o) :
    t.link p = s.link p := by
  rw [link_congr h, link_setLink, if_neg (Ne.symm ne)]

theorem frame_take (s : State) (o : Outlet) : { s.take o with
    sessions := s.sessions, pool := s.pool, notices := s.notices, meters := s.meters, line := s.line,
    exchanges := s.exchanges } = s := by
  apply state_ext <;> simp

theorem meter_take_other {s : State} {o p : Outlet} (ne : p ≠ o) : (s.take o).meter p = s.meter p := by
  unfold State.take
  split
  · split
    · rw [State.freshTake, meter_sessionFresh_other _ ne]
      rfl
    · rw [meter_congr (meters_staleTake s o)]
  · rfl

theorem becomesUnreachable_iff (s : State) (o : Outlet) : s.becomesUnreachable o = true ↔
    s.control.park.missLimit ≤ min 255 ((s.link o).miss + 1) ∧ (s.link o).link ≠ .unreachable := by
  rw [State.becomesUnreachable, Bool.and_eq_true, decide_eq_true_iff, bne_iff_ne]
  rfl

end Sys2Proof.Proofs.Takes
end

section
/-! The statements about takes and what a fresh take does to the session. -/

namespace Sys2Proof.Proofs.TakeStatements

open Sys2Proof.Machine Sys2Proof.Safety Sys2Proof.Laws
open Sys2Proof.Proofs.Accounts Sys2Proof.Proofs.SessionEvents Sys2Proof.Proofs.LineFrames Sys2Proof.Proofs.Takes

/-! ### Takes, R104 to R107 -/

theorem link_staleTake (s : State) (o : Outlet) : (s.staleTake o).link o =
    { s.link o with miss := (s.link o).missed, link := if s.becomesUnreachable o then .unreachable else (s.link o).link } := by
  rw [link_congr (line_staleTake s o), link_afterMiss, if_pos rfl]

/-- A stale take that leaves the link as it was tells the session nothing. -/
theorem staleTake_reachable {s : State} {o : Outlet} (reachable : s.becomesUnreachable o = false) :
    s.staleTake o = afterMiss s o := by
  rw [staleTake_eq, reachable]
  rfl

theorem staleTake_unreachable {s : State} {o : Outlet} (lost : s.becomesUnreachable o = true) :
    s.staleTake o = ((afterMiss s o).raiseOutlet .outletUnreachable o).linkLost o := by
  rw [staleTake_eq, lost]
  rfl

theorem isCharging_afterMiss (s : State) (o : Outlet) :
    ((afterMiss s o).raiseOutlet .outletUnreachable o).isCharging o = s.isCharging o :=
  isCharging_congr (s := s) rfl o

theorem slot_afterMiss (s : State) (o p : Outlet) : ((afterMiss s o).raiseOutlet .outletUnreachable o).slot p = s.slot p :=
  slot_congr (s := s) rfl p

theorem notices_suspend (s : State) (o : Outlet) (ses : Session) (f : Resumable) :
    (s.suspend o ses f).notices = s.notices.raiseOutlet .sessionSuspended o := by
  simp only [State.suspend, State.raiseOutlet, notices_setAndRelease]

/-- What is released is read off the pool. -/
theorem released_of_pool {s t t' : State} {o : Outlet} (h : Released s t o) (e : t'.pool = t.pool) : Released s t' o := by
  unfold Released UnrouteGoes State.module at *
  rw [e]
  exact h

theorem released_suspend (s : State) (o : Outlet) (ses : Session) (f : Resumable) : Released s (s.suspend o ses f) o :=
  released_of_pool (released_setAndRelease s o _) (pool_raiseOutlet _ _ _)

theorem site_linkLost (s : State) (o : Outlet) : (s.linkLost o).notices.site = s.notices.site := by
  unfold State.linkLost
  repeat' split
  all_goals simp [notices_suspend, NoticeSets.raiseOutlet]

theorem notices_staleTake_site {s : State} {o : Outlet} (lost : s.becomesUnreachable o = true) :
    (s.staleTake o).notices.site = { s.notices.site with unreachable := s.notices.site.unreachable ||| outletBit o } := by
  rw [staleTake_unreachable lost, site_linkLost]
  rfl

/-- Settles O48: the fresh take by `freshTake`, the stale one by `staleTake`; what is left of the other outlets. -/
theorem takesJudged : Obligations.TakesJudged := by
  refine ⟨fun s o absent => take_absent absent, fun s o present => ⟨fun b r latest report echo => ?_, fun stale => ?_, fun p ne => ?_, ?_,
    nextNumber_take s o, frame_take s o⟩⟩
  · have e := take_fresh present (freshReport_some latest report echo)
    refine ⟨e, ?_⟩
    rw [e, exchange_freshTake, if_pos rfl, link_congr (line_freshTake s o r), link_setLink, if_pos rfl]
    exact ⟨latest, rfl, rfl, fun c => getElem_emptied _ _ _, rfl⟩
  · have e := take_stale present (freshReport_none stale)
    rw [e, exchange_staleTake, if_pos rfl, link_staleTake, meters_staleTake]
    refine ⟨rfl, rfl, rfl, fun c => getElem_emptied _ _ _, rfl, rfl, ?_, rfl, fun reachable => ?_, fun misses link => ?_⟩
    · exact slotsOnly_iff.2 ⟨e ▸ nextNumber_take s o, nextStamp_staleTake s o⟩
    · have stays : s.becomesUnreachable o = false := by
        rw [Bool.eq_false_iff, ne_eq, becomesUnreachable_iff]
        rintro ⟨misses, link⟩
        rcases reachable with few | lost
        · omega
        · exact link lost
      rw [staleTake_reachable stays, stays]
      exact ⟨rfl, rfl, rfl, rfl⟩
    · have lost : s.becomesUnreachable o = true := (becomesUnreachable_iff s o).2 ⟨misses, link⟩
      refine ⟨by rw [lost]; rfl, notices_staleTake_site lost, fun charging parked => ?_, fun ses f h st => ?_⟩
      · rw [staleTake_unreachable lost, linkLost_keeps ((isCharging_afterMiss s o).trans charging)
          fun ses h => parked ses ((slot_afterMiss s o o).symm.trans h)]
        exact ⟨rfl, rfl, rfl⟩
      · rw [staleTake_unreachable lost, linkLost_suspends ((slot_afterMiss s o o).trans h) st]
        refine ⟨?_, released_congr (released_suspend _ o ses f) rfl rfl rfl, ?_⟩
        · rw [slot_suspend, if_pos rfl]
          rfl
        · rw [notices_suspend]
          rfl
  · obtain ⟨l, line⟩ := line_take s o
    exact ⟨exchange_take_other ne, link_of_line line ne, slot_take_other ne, meter_take_other ne⟩
  · obtain ⟨l, line⟩ := line_take s o
    rw [line]
    rfl

/-! ### What a fresh take does to the session, R43 to R46, R51, R75, R76 -/

theorem takeFresh_eq (x : Exchange) : x.takeFresh =
    { buffers := match x.held with
        | none => x.buffers
        | some b => x.buffers.set b none
      writing := x.writing, latest := none, held := x.latest } := by
  unfold Exchange.takeFresh
  cases x.held <;> rfl

theorem recordMeter_eq (t : State) (o : Outlet) (r : Report) : t.recordMeter o r = t.setSlot o ((t.slot o).map fun v =>
    match v.state with
    | .closedWait _ _ => v
    | _ => { v with charge := v.charge.map fun c => { c with lastMeter := r.meter } }) := by
  unfold State.recordMeter
  cases h : t.slot o with
  | none => exact ((congrArg (t.setSlot o) h).symm.trans (setSlot_slot t o)).symm
  | some v => rfl

theorem freshTake_eq (s : State) (o : Outlet) (r : Report) : s.freshTake o r =
    ((s.setExchange o (s.exchange o).takeFresh).setLink o { s.link o with miss := 0, link := .online }).sessionFresh o r := rfl

theorem sessionFresh_eq (s : State) (o : Outlet) (r : Report) : s.sessionFresh o r =
    if s.isCharging o && ((s.resume o).applyReport o r).isCharging o then
      (((s.resume o).applyReport o r).recordMeter o r).overdrawCheck o r.measured
    else ((s.resume o).applyReport o r).recordMeter o r := rfl

theorem overdrawCheck_within {u : State} {o : Outlet} {measured : Nat}
    (h : measured ≤ (u.link o).published + max 20 ((u.link o).published / 20)) :
    u.overdrawCheck o measured = u.setMeter o { u.meter o with overdraw := 0 } :=
  if_neg fun e => absurd (of_decide_eq_true e) (Nat.not_lt.2 h)

theorem overdrawCheck_above {u : State} {o : Outlet} {measured : Nat}
    (h : (u.link o).published + max 20 ((u.link o).published / 20) < measured) : u.overdrawCheck o measured =
      if min 3 ((u.meter o).overdraw + 1) = 3 then
        ((u.setMeter o { u.meter o with overdraw := min 3 ((u.meter o).overdraw + 1) }).enterStopping o .overdraw).raiseOutlet
          .overdraw o
      else u.setMeter o { u.meter o with overdraw := min 3 ((u.meter o).overdraw + 1) } :=
  if_pos (decide_eq_true h)

theorem freshTake_parts {s base t u : State} {o : Outlet} {r : Report} {limit : Nat}
    (hb : base = (s.setExchange o (s.exchange o).takeFresh).setLink o { s.link o with miss := 0, link := .online })
    (ht : t = (base.resume o).applyReport o r) (hu : u = t.recordMeter o r)
    (hl : limit = (s.link o).published + max 20 ((s.link o).published / 20)) :
    (s.isCharging o = false ∨ t.isCharging o = false → s.freshTake o r = u) ∧
    (s.isCharging o = true → t.isCharging o = true →
      (r.measured ≤ limit → s.freshTake o r = u.setMeter o { s.meter o with overdraw := 0 }) ∧
      (limit < r.measured → (s.meter o).overdraw < 2 →
        s.freshTake o r = u.setMeter o { s.meter o with overdraw := (s.meter o).overdraw + 1 }) ∧
      (limit < r.measured → 2 ≤ (s.meter o).overdraw →
        s.freshTake o r =
          ((u.setMeter o { s.meter o with overdraw := 3 }).enterStopping o .overdraw).raiseOutlet .overdraw o)) := by
  have charging : base.isCharging o = s.isCharging o := by rw [hb]; exact isCharging_congr (s := s) rfl o
  have meter : u.meter o = s.meter o := by
    refine meter_congr ?_ o
    rw [hu, meters_recordMeter, ht, meters_applyReport, meters_resume, hb]
    rfl
  have published : (u.link o).published = (s.link o).published := by
    have line : u.line = base.line := by rw [hu, line_recordMeter, ht, line_applyReport, line_resume]
    rw [link_congr line, hb, link_setLink, if_pos rfl]
  have whole : s.freshTake o r = if s.isCharging o && t.isCharging o then u.overdrawCheck o r.measured else u := by
    rw [freshTake_eq, ← hb, sessionFresh_eq, ← ht, ← hu, charging]
  rw [whole]
  refine ⟨fun idle => if_neg ?_, fun before after => ?_⟩
  · rcases idle with h | h <;> simp [h]
  rw [if_pos (by simp [before, after])]
  refine ⟨fun within => ?_, fun above few => ?_, fun above many => ?_⟩
  · rw [overdrawCheck_within (by rw [published, ← hl]; exact within), meter]
  · rw [overdrawCheck_above (by rw [published, ← hl]; exact above), meter, if_neg (by omega), min_eq_right (by omega)]
  · rw [overdrawCheck_above (by rw [published, ← hl]; exact above), meter, if_pos (by omega), min_eq_left (by omega)]

/-- R44: a report without STOP_PRESSED, or in a state it does not apply to, moves the session by the table. -/
theorem applyReport_table {s : State} {o : Outlet} {ses : Session} {r : Report} (h : s.slot o = some ses)
    (table : r.stopPressed = false ∨ ses.state.stoppable = false) : s.applyReport o r = s.applyPedestal o ses r := by
  rw [State.applyReport, h]
  refine if_neg ?_
  rcases table with e | e <;> simp [e]

theorem applyReport_stopped {s : State} {o : Outlet} {ses : Session} {r : Report} (h : s.slot o = some ses)
    (pressed : r.stopPressed = true) (stoppable : ses.state.stoppable = true) : s.applyReport o r = s.enterStopping o .user := by
  rw [State.applyReport, h]
  exact if_pos ⟨pressed, stoppable⟩

/-- Settles O49: the parts of a fresh take; the table of R44 row by row. -/
theorem reportMovesSession : Obligations.ReportMovesSession := by
  refine ⟨fun s base t u o r limit hb ht hu hl => freshTake_parts (by rw [hb, takeFresh_eq] <;> rfl) ht
      (by rw [hu, recordMeter_eq] <;> rfl) hl,
    fun s o ses r h => ⟨fun pressed states => applyReport_stopped h pressed ?_, fun free => ?_, fun ended => ?_, fun d st => ?_,
      fun d st => ?_⟩⟩
  · rcases states with ⟨d, st⟩ | st | st <;> rw [st] <;> rfl
  · rw [applyReport_table h (.inl free), State.applyPedestal]
    refine ⟨fun d st => ⟨fun seen => ?_, fun seen => ?_, fun seen => ?_⟩,
      fun st => ⟨fun seen => ?_, fun seen => ?_, fun seen => ?_, fun seen => ?_⟩,
      fun st => ⟨fun seen => ?_, fun seen => ?_, fun seen => ?_, fun seen => ?_⟩⟩
    · rcases seen with e | e | e <;> rw [st, e]
    · rw [st, seen]
    · rcases seen with e | e <;> rw [st, e] <;> rfl
    · rw [st, seen]
    · rcases seen with e | e | e <;> rw [st, e]
    · rw [st, seen]
      rfl
    · rw [st, seen]
    · rw [st, seen]
    · rcases seen with e | e <;> rw [st, e]
    · rcases seen with e | e <;> rw [st, e]
    · rw [st, seen]
  · have past : ses.state.stoppable = false := by
      rcases ended with ⟨e, n, d, st⟩ | ⟨q, n, st⟩ <;> rw [st] <;> rfl
    rw [applyReport_table h (.inr past), State.applyPedestal]
    rcases ended with ⟨e, n, d, st⟩ | ⟨q, n, st⟩ <;> rw [st]
  · simp only [State.resume, h, st]
  · simp only [State.resume, h, st]
    rfl

end Sys2Proof.Proofs.TakeStatements
end

section
/-! The cycle expiry and the openings (R13, R108 to R114, R119, R176). -/

namespace Sys2Proof.Proofs.Openings

open Sys2Proof.Machine Sys2Proof.Safety Sys2Proof.Laws
open Sys2Proof.Proofs.Stepping

/-! ### The cycle expiry, R13, R108, R110, R119 -/

theorem expiryReached_some {s : State} {d : Nat} (mode : s.control.mode = .operating) (timer : s.control.cycleTimer = some d)
    (passed : d ≤ s.clock.elapsed) : s.expiryReached = some d := by
  rw [State.expiryReached, if_pos mode, timer, Option.bind_some, if_pos passed]

theorem free_iff (l : LineController) : l.free = true ↔ l.rx = .waiting ∧ l.sending = none ∧ l.replyWindow = none := by
  simp [LineController.free, and_assoc]

theorem line_skipPending (s : State) : s.skipPending.line.rx = s.line.rx ∧ s.skipPending.line.sending = s.line.sending ∧
    s.skipPending.line.replyWindow = s.line.replyWindow := by
  unfold State.skipPending
  split <;> exact ⟨rfl, rfl, rfl⟩

/-- The frame and the setpoints do not look at what pends. -/
theorem beginOpening_pending (s : State) (b : Bool) :
    ({ s with line := { s.line with openingPending := b } } : State).beginOpening = s.beginOpening := rfl

/-- Settles O50: the stages by definition; the opening begins on a free line. -/
theorem cycleExpiryRuns : Obligations.CycleExpiryRuns := by
  refine ⟨fun s d quiet held mode timer passed => ?_, fun s => ⟨rfl, rfl⟩, fun s skipped quiet hs => ?_⟩
  · refine exec_happens rfl (by simp) (by simp) held ?_
    simp only [eventEffect, State.cycleExpiry, expiryReached_some mode timer passed]
    rfl
  · have skip : s.skipPending = skipped := hs.symm
    obtain ⟨rx', sending', window'⟩ := line_skipPending s
    rw [skip] at rx' sending' window'
    unfold State.handOver
    simp only [skip]
    refine ⟨fun quiet' rx sending window => ?_, fun busy => if_neg ?_⟩
    · have free : ({ skipped.line with openingPending := true } : LineController).free = true :=
        (free_iff _).2 ⟨rx'.trans rx, sending'.trans sending, window'.trans window⟩
      rw [quiet', free]
      exact beginOpening_pending skipped true
    · intro h
      obtain ⟨quiet', free⟩ := Bool.and_eq_true_iff.1 h
      obtain ⟨rx, sending, window⟩ := (free_iff _).1 free
      rcases busy with e | e | e | e
      · rw [e] at quiet'; cases quiet'
      · exact e (rx'.symm.trans rx)
      · exact e (sending'.symm.trans sending)
      · exact e (window'.symm.trans window)

/-! ### The opening, R111 to R113 -/

theorem command_absent {s : State} {o : Outlet} (absent : s.present o = false) : s.command o = .idle := by
  rw [State.command, if_neg (by simp [absent])]

theorem command_vacant {s : State} {o : Outlet} (vacant : s.slot o = none) : s.command o = .idle := by
  simp [State.command, vacant]

theorem command_present {s : State} {o : Outlet} {ses : Session} (present : s.present o = true) (h : s.slot o = some ses) :
    s.command o = match ses.state with
      | .armed _ => .wait
      | .parked => .wait
      | .suspended _ _ => .wait
      | .charging => if (s.record o).admission = .admitted then .run else .wait
      | .stopping _ _ _ => .stop
      | .closedWait _ _ => .idle := by
  rw [State.command, if_pos present, h] <;> rfl

theorem setpoint_run {s : State} {o : Outlet} (run : s.command o = .run) :
    s.setpoint o = min (s.record o).grant (s.activeCount o * s.control.park.moduleRating.getD 0) := by
  rw [State.setpoint, run]
  rfl

theorem setpoint_other {s : State} {o : Outlet} (rest : s.command o ≠ .run) : s.setpoint o = 0 := by
  unfold State.setpoint
  cases h : s.command o with
  | run => exact absurd h rest
  | _ => rfl

theorem activeCount_le (s : State) (o : Outlet) :
    s.activeCount o ≤ allModules.countP fun m => (s.module m).state == .active o := by
  unfold State.activeCount
  split
  · exact le_rfl
  · exact Nat.zero_le _

theorem setpoint_le (s : State) (o : Outlet) : s.setpoint o ≤ (s.record o).grant ∧
    s.setpoint o ≤ s.control.park.moduleRating.getD 0 * allModules.countP fun m => (s.module m).state == .active o := by
  by_cases run : s.command o = .run
  · rw [setpoint_run run]
    refine ⟨min_le_left _ _, (min_le_right _ _).trans ?_⟩
    rw [Nat.mul_comm]
    exact Nat.mul_le_mul_left _ (activeCount_le s o)
  · rw [setpoint_other run]
    exact ⟨Nat.zero_le _, Nat.zero_le _⟩

theorem link_beginOpening (s : State) (o : Outlet) : s.beginOpening.link o = { s.link o with published := s.setpoint o } := by
  simp [State.link, State.beginOpening]

theorem openingBegin_free {s : State} (pending : s.line.openingPending = true) (free : s.line.free = true) :
    s.openingBegin = s.beginOpening := by
  rw [State.openingBegin, pending, free]
  rfl

/-- Settles O51: the commands, the frame that `beginOpening` builds, and the bounds of its setpoints. -/
theorem openingBuilt : Obligations.OpeningBuilt := by
  refine ⟨fun s o => ⟨fun absent => ⟨command_absent absent, if_neg (by simp [absent])⟩, fun present => ⟨if_pos present, command_vacant,
    fun ses h => ?_⟩⟩, rfl, fun s held pending rx sending window => ⟨s.beginOpening, ?_, rfl, rfl, ?_, rfl, fun o => ?_, fun inv => ?_,
      rfl⟩, fun s frame held sending => ?_, fun s d held window passed => ?_⟩
  · rw [command_present present h]
    refine ⟨fun states => ?_, fun st admitted => ?_, fun st other => ?_, fun ⟨r, n, d, st⟩ => ?_, fun ⟨r, n, st⟩ => ?_⟩
    · rcases states with ⟨d, st⟩ | st | ⟨f, d, st⟩ <;> rw [st]
    · simp only [st, if_pos admitted]
    · simp only [st, if_neg other]
    · rw [st]
    · rw [st]
  · exact exec_happens rfl (by simp) (by simp) held (openingBegin_free pending ((free_iff _).2 ⟨rx, sending, window⟩))
  · simp only [link_beginOpening]
    rfl
  · simp only [link_beginOpening]
    exact ⟨trivial, (setpoint_le s o).1, (setpoint_le s o).2, setpoint_run, setpoint_other⟩
  · obtain ⟨_, sum, _⟩ := inv
    refine le_trans (List.sum_le_sum fun o _ => ?_) sum
    rw [link_beginOpening]
    exact (setpoint_le s o).1
  · refine exec_happens rfl (by simp) (by simp) held ?_
    simp only [eventEffect, State.openingEnd, sending, Option.isSome_some, if_true]
  · refine exec_happens rfl (by simp) (by simp) held ?_
    simp only [eventEffect, State.replyWindowClose, window, if_pos passed]

end Sys2Proof.Proofs.Openings
end

section
/-! Session numbers and the waiting set (R39, R155 to R160): each number is held once, and a session waits only while the queue is full. -/

namespace Sys2Proof.Proofs.Numbers

open Sys2Proof.Machine Sys2Proof.Safety Sys2Proof.Laws
open Sys2Proof.Proofs.Footprint Sys2Proof.Proofs.Accounts Sys2Proof.Proofs.LedgerWriters Sys2Proof.Proofs.SessionCounter

/-! ### What the numbers are read off -/

/-- A slot's number and finished record. -/
def holder (ses : Session) : Nat × Option ClosureRecord := (ses.number, ses.state.closure?)

def holders (s : State) (o : Outlet) : Option (Nat × Option ClosureRecord) := (s.slot o).map holder

theorem holders_eq (s : State) (o : Outlet) : holders s o = ((ledger s).accounts o).map fun a => (a.number, a.closure) := by
  rw [holders, accounts_ledger, Option.map_map]
  rfl

theorem holders_of_ledger {s t : State} (h : ledger t = ledger s) : holders t = holders s := by
  funext o
  rw [holders_eq, holders_eq, h]

theorem heldNumbers_eq (s : State) :
    s.heldNumbers = allOutlets.filterMap (fun o => (holders s o).map (·.1)) ++ s.closures.map (·.number) := by
  simp only [State.heldNumbers, holders, Option.map_map]
  rfl

/-- A session that waits, by its number and record. -/
theorem holders_waiting {s : State} {o : Outlet} {ses : Session} {r : ClosureRecord} {n : Nat} (h : s.slot o = some ses)
    (st : ses.state = .closedWait r n) : holders s o = some (ses.number, some r) := by
  rw [holders, h, Option.map_some, holder, st]
  rfl

theorem waiting_of_holders {s : State} {o : Outlet} {k : Nat} {r : ClosureRecord} (h : holders s o = some (k, some r)) :
    ∃ ses n, s.slot o = some ses ∧ ses.number = k ∧ ses.state = .closedWait r n := by
  obtain ⟨ses, hs, e⟩ := Option.map_eq_some_iff.1 h
  rw [holder, Prod.mk.injEq] at e
  obtain ⟨number, closure⟩ := e
  obtain ⟨n, st⟩ := closure?_eq_some.1 closure
  exact ⟨ses, n, hs, number, st⟩

/-- The two properties, read off the holders, the next number and the queue. -/
def NumbersOk (s : State) : Prop :=
  (s.heldNumbers.Nodup ∧ s.sessions.nextNumber ∉ s.heldNumbers ∧
    ∀ n ∈ s.sessions.nextNumber :: s.heldNumbers, 1 ≤ n ∧ n ≤ max32) ∧
    ∀ o k r, holders s o = some (k, some r) → r.number = k ∧ s.closures.length = Config.closureRoom

theorem numbersOk_iff (s : State) : NumbersOk s ↔ NumbersInv s ∧ WaitsOnlyWhenFull s := by
  constructor
  · rintro ⟨⟨nodup, fresh, range⟩, waiting⟩
    exact ⟨⟨nodup, fresh, range, fun o ses r n h st => (waiting o _ r (holders_waiting h st)).1⟩,
      fun o ses r n h st => (waiting o _ r (holders_waiting h st)).2⟩
  · rintro ⟨⟨nodup, fresh, range, own⟩, full⟩
    refine ⟨⟨nodup, fresh, range⟩, fun o k r h => ?_⟩
    obtain ⟨ses, n, hs, number, st⟩ := waiting_of_holders h
    exact ⟨(own o ses r n hs st).trans number, full o ses r n hs st⟩

theorem numbersOk_congr {s t : State} (h : holders t = holders s) (next : t.sessions.nextNumber = s.sessions.nextNumber)
    (queue : t.closures = s.closures) (hs : NumbersOk s) : NumbersOk t := by
  unfold NumbersOk at *
  rw [heldNumbers_eq, h, next, queue, ← heldNumbers_eq]
  exact hs

theorem numbersOk_of_ledger {s t : State} (h : ledger t = ledger s) (queue : t.closures = s.closures) (hs : NumbersOk s) :
    NumbersOk t :=
  numbersOk_congr (holders_of_ledger h) (congrArg Ledger.next h) queue hs

theorem holders_setSlot (s : State) (o p : Outlet) (v : Option Session) :
    holders (s.setSlot o v) p = if o = p then v.map holder else holders s p := by
  rw [holders, slot_setSlot]
  split <;> rfl

/-- A slot rewritten with the same number and record. -/
theorem holders_setSlot_same {s : State} {o : Outlet} {ses v : Session} (h : s.slot o = some ses) (e : holder v = holder ses) :
    holders (s.setSlot o (some v)) = holders s := by
  funext p
  rw [holders_setSlot]
  split
  next ho => rw [← ho, holders, h, Option.map_some, Option.map_some, e]
  next => rfl

/-! ### A slot vacated or filled -/

/-- One entry of a list without repetitions is dropped. -/
theorem filterMap_perm_of_dropped {α β : Type} {f g : α → Option β} {a : α} {b : β} (hf : f a = some b) (hg : g a = none) :
    ∀ {l : List α}, l.Nodup → a ∈ l → (∀ x ∈ l, x ≠ a → g x = f x) → (l.filterMap f).Perm (b :: l.filterMap g)
  | x :: rest, nodup, mem, same => by
    obtain ⟨fresh, nodup'⟩ := List.nodup_cons.1 nodup
    by_cases e : x = a
    · subst e
      have rest' : rest.filterMap g = rest.filterMap f :=
        List.filterMap_congr fun y hy => same y (List.mem_cons_of_mem _ hy) fun h => fresh (h ▸ hy)
      rw [List.filterMap_cons_some hf, List.filterMap_cons_none hg, rest']
    · have ih := filterMap_perm_of_dropped hf hg nodup' ((List.mem_cons.1 mem).resolve_left fun h => e h.symm)
        fun y hy => same y (List.mem_cons_of_mem _ hy)
      have same' := same x List.mem_cons_self e
      cases hx : f x with
      | none => rwa [List.filterMap_cons_none hx, List.filterMap_cons_none (same'.trans hx)]
      | some c =>
        rw [List.filterMap_cons_some hx, List.filterMap_cons_some (same'.trans hx)]
        exact (ih.cons c).trans (List.Perm.swap b c _)

theorem slots_perm {s t : State} {o : Outlet} {k : Nat} {r : Option ClosureRecord} (taken : holders s o = some (k, r))
    (vacant : holders t o = none) (others : ∀ p, p ≠ o → holders t p = holders s p) :
    (allOutlets.filterMap fun p => (holders s p).map (·.1)).Perm (k :: allOutlets.filterMap fun p => (holders t p).map (·.1)) :=
  filterMap_perm_of_dropped (by rw [taken]; rfl) (by rw [vacant]; rfl) allOutlets_nodup (mem_allOutlets o)
    fun p _ ne => by rw [others p ne]

/-- R156, R160: a slot's number passes to the tail of the queue. -/
theorem heldNumbers_moved {s t : State} {o : Outlet} {ses : Session} {r : ClosureRecord} (h : s.slot o = some ses)
    (number : r.number = ses.number) (slots : ∀ p, t.slot p = if o = p then none else s.slot p)
    (queue : t.closures = s.closures ++ [r]) : t.heldNumbers.Perm s.heldNumbers := by
  have taken : holders s o = some (holder ses) := by rw [holders, h]; rfl
  have vacant : holders t o = none := by rw [holders, slots, if_pos rfl]; rfl
  have others : ∀ p, p ≠ o → holders t p = holders s p := fun p ne => by
    rw [holders, slots, if_neg (Ne.symm ne)]
    rfl
  have perm := slots_perm taken vacant others
  rw [heldNumbers_eq, heldNumbers_eq, queue, List.map_append, List.map_singleton, number, ← List.append_assoc]
  refine ((List.perm_append_singleton _ _).trans ?_)
  exact (perm.append_right _).symm

theorem range_of_perm {s t : State} (perm : t.heldNumbers.Perm s.heldNumbers)
    (next : t.sessions.nextNumber = s.sessions.nextNumber)
    (hs : s.heldNumbers.Nodup ∧ s.sessions.nextNumber ∉ s.heldNumbers ∧
      ∀ n ∈ s.sessions.nextNumber :: s.heldNumbers, 1 ≤ n ∧ n ≤ max32) :
    t.heldNumbers.Nodup ∧ t.sessions.nextNumber ∉ t.heldNumbers ∧
      ∀ n ∈ t.sessions.nextNumber :: t.heldNumbers, 1 ≤ n ∧ n ≤ max32 := by
  obtain ⟨nodup, fresh, range⟩ := hs
  rw [next]
  exact ⟨perm.nodup_iff.2 nodup, fun h => fresh (perm.mem_iff.1 h), fun n hn => range n ((perm.cons _).mem_iff.1 hn)⟩

/-! ### The settle deadline and the release of a closure -/

theorem numbersOk_offer {s : State} (room : s.closures.length ≤ Config.closureRoom) (hs : NumbersOk s) {o : Outlet} {ses : Session}
    {r : ClosureRecord} (h : s.slot o = some ses) (number : r.number = ses.number) : NumbersOk (s.offer o ses r) := by
  obtain ⟨numbers, waiting⟩ := hs
  unfold State.offer
  split
  next free =>
    refine ⟨range_of_perm (heldNumbers_moved h number (fun p => by rw [slot_setSlot]; rfl) rfl) rfl numbers, fun p k q hp => ?_⟩
    rw [holders_setSlot] at hp
    split at hp
    · cases hp
    · have full := (waiting p k q hp).2
      omega
  next full =>
    have same : (s.setSlot o (some { ses with state := .closedWait r s.clock.elapsed })).heldNumbers = s.heldNumbers := by
      have slots : ∀ p, ((s.setSlot o (some { ses with state := .closedWait r s.clock.elapsed })).slot p).map (·.number) =
          (s.slot p).map (·.number) := by
        intro p
        rw [slot_setSlot]
        split
        next e => rw [← e, h]; rfl
        next => rfl
      simp only [State.heldNumbers, slots, closures_setSlot]
    refine ⟨by rw [same]; exact numbers, fun p k q hp => ?_⟩
    rw [holders_setSlot] at hp
    split at hp
    · rw [Option.map_some, Option.some.injEq, holder, Prod.mk.injEq] at hp
      obtain ⟨rfl, hq⟩ := hp
      cases hq
      exact ⟨number, Nat.le_antisymm room (Nat.not_lt.1 full)⟩
    · exact waiting p k q hp

theorem numbersOk_settleDeadline {s : State} (room : s.closures.length ≤ Config.closureRoom) (hs : NumbersOk s) (o : Outlet) :
    NumbersOk (s.settleDeadline o) := by
  rcases settleDeadline_cases s o with e | ⟨ses, reason, time, d, h, _, e⟩ <;> rw [e]
  · exact hs
  · exact numbersOk_offer room hs h rfl

/-- R159: with the head of the queue its number is given up. -/
theorem numbers_released {s : State} {r : ClosureRecord} {rest : List ClosureRecord} (queue : s.closures = r :: rest)
    (hs : s.heldNumbers.Nodup ∧ s.sessions.nextNumber ∉ s.heldNumbers ∧
      ∀ n ∈ s.sessions.nextNumber :: s.heldNumbers, 1 ≤ n ∧ n ≤ max32) :
    ({ s with closures := rest } : State).heldNumbers.Nodup ∧
      s.sessions.nextNumber ∉ ({ s with closures := rest } : State).heldNumbers ∧
      ∀ n ∈ s.sessions.nextNumber :: ({ s with closures := rest } : State).heldNumbers, 1 ≤ n ∧ n ≤ max32 := by
  obtain ⟨nodup, fresh, range⟩ := hs
  have sub : ({ s with closures := rest } : State).heldNumbers.Sublist s.heldNumbers := by
    rw [State.heldNumbers, State.heldNumbers, queue]
    exact (List.sublist_cons_self r.number (rest.map (·.number))).append_left _
  exact ⟨sub.nodup nodup, fun h => fresh (sub.subset h), fun n hn => range n ((sub.cons_cons _).subset hn)⟩

theorem numbersOk_answerRelease {s : State} (hs : NumbersOk s) (number : Nat) : NumbersOk (s.answerRelease number).state := by
  obtain ⟨numbers, waiting⟩ := hs
  rcases answerRelease_cases s number with e | ⟨r, rest, queue, e⟩ <;> rw [e]
  · exact ⟨numbers, waiting⟩
  have released := numbers_released queue numbers
  rcases admitWaiter_cases ({ s with closures := rest } : State) with ⟨none', e⟩ | ⟨o, ses, q, n, h, st, e⟩ <;> rw [e]
  · refine ⟨released, fun o k q h => ?_⟩
    obtain ⟨ses, n, hs, _, st⟩ := waiting_of_holders h
    exact absurd st (none' o ses q n hs)
  · obtain ⟨own, full⟩ := waiting o ses.number q (holders_waiting (s := s) h st)
    refine ⟨range_of_perm (s := { s with closures := rest })
      (heldNumbers_moved h own (fun p => by rw [slot_setSlot]; rfl) rfl) rfl released, fun p k q' hp => ?_⟩
    rw [holders_setSlot] at hp
    split at hp
    · cases hp
    · refine ⟨(waiting p k q' hp).1, ?_⟩
      rw [queue, List.length_cons] at full
      show (rest ++ [q]).length = _
      rw [List.length_append, List.length_singleton, full]

/-! ### ARM -/

theorem numbersOk_create {s : State} (room : s.closures.length ≤ Config.closureRoom) (hs : NumbersOk s) {o : Outlet}
    (vacant : s.slot o = none) {ses : Session} (number : ses.number = s.sessions.nextNumber) (opened : ses.state.closure? = none) :
    NumbersOk (s.createSession o ses) := by
  obtain ⟨⟨nodup, fresh, range⟩, waiting⟩ := hs
  have holders' : ∀ p, holders (s.createSession o ses) p = if o = p then some (holder ses) else holders s p :=
    fun p => holders_setSlot s o p (some ses)
  have perm : (s.createSession o ses).heldNumbers.Perm (s.sessions.nextNumber :: s.heldNumbers) := by
    have taken : holders (s.createSession o ses) o = some (s.sessions.nextNumber, ses.state.closure?) := by
      rw [holders', if_pos rfl, holder, number]
    have slots := slots_perm (s := s.createSession o ses) (t := s) taken (by rw [holders, vacant]; rfl)
      fun p ne => by rw [holders', if_neg (Ne.symm ne)]
    rw [heldNumbers_eq, heldNumbers_eq s, ← List.cons_append]
    exact slots.append_right _
  have short : (s.createSession o ses).heldNumbers.length ≤ 48 := length_heldNumbers (s := s.createSession o ses) room
  obtain ⟨k, _, found, free, _⟩ := advanceNumber_reaches short s.sessions.nextNumber
  have next : (s.createSession o ses).sessions.nextNumber = nextNumber^[k + 1] s.sessions.nextNumber := found
  have bound := (range _ List.mem_cons_self).2
  refine ⟨⟨perm.nodup_iff.2 (List.nodup_cons.2 ⟨fresh, nodup⟩), by rw [next]; exact free, fun n hn => ?_⟩, fun p k' r hp => ?_⟩
  · rcases List.mem_cons.1 hn with rfl | hn
    · rw [next]
      exact iterate_nextNumber_range _ bound k
    · exact range n (perm.mem_iff.1 hn)
  · rw [holders'] at hp
    split at hp
    · rw [Option.some.injEq, holder, opened] at hp
      cases hp
    · exact waiting p k' r hp

theorem numbersOk_answerArm {s : State} (room : s.closures.length ≤ Config.closureRoom) (hs : NumbersOk s) (outlet : Byte) (hold : Nat)
    (plan cls : Byte) (ref : Vector Byte 12) : NumbersOk (s.answerArm outlet hold plan cls ref).state := by
  rcases answerArm_cases s outlet hold plan cls ref with e | ⟨o, n, _, _, vacant, _, e⟩ <;> rw [e]
  · exact hs
  · exact numbersOk_create room hs vacant rfl rfl

end Sys2Proof.Proofs.Numbers
end

section
/-! Queues within their room and counters within their range (R76, R105, R111, R130, R155, R167), and with the session numbers what every
step keeps of them. -/

namespace Sys2Proof.Proofs.Rooms

open Sys2Proof.Machine Sys2Proof.Safety Sys2Proof.Laws
open Sys2Proof.Proofs.Footprint Sys2Proof.Proofs.Accounts Sys2Proof.Proofs.LedgerWriters Sys2Proof.Proofs.Takes
open Sys2Proof.Proofs.Numbers

/-! ### Folds and expiries -/

theorem foldl_keeps {α : Type} {I : State → Prop} {f : State → α → State} (h : ∀ s a, I s → I (f s a)) (l : List α) :
    ∀ s, I s → I (l.foldl f s) := by
  induction l with
  | nil => exact fun _ hs => hs
  | cons a rest ih => exact fun s hs => ih _ (h s a hs)

/-- R119: a cycle expiry is nothing, or its takes, dispatch and hand-over in OPERATING. -/
theorem cycleExpiry_cases (s : State) (quiet : Bool) : s.cycleExpiry quiet = s ∨
    ∃ d, s.control.mode = .operating ∧ s.cycleExpiry quiet = (s.rearm d).takes.dispatch.handOver quiet := by
  unfold State.cycleExpiry State.expiryReached
  split
  next d h =>
    split at h
    next mode => exact .inr ⟨d, mode, rfl⟩
    next => cases h
  next => exact .inl rfl

/-! ### The response queues, R167 -/

def ResponsesOk (s : State) : Prop := ∀ p, (s.port p).responses.length ≤ Config.responseRoom

theorem responsesOk_of {s t : State} (h : ∀ p, (t.port p).responses = (s.port p).responses) (hs : ResponsesOk s) :
    ResponsesOk t := fun p => by rw [h]; exact hs p

theorem responses_setPort (s : State) (p q : PortId) (v : Port) : ((s.setPort p v).port q).responses =
    if p = q then v.responses else (s.port q).responses := by
  cases p <;> cases q <;> rfl

theorem responsesOk_setPort {s : State} (hs : ResponsesOk s) (p : PortId) {v : Port} (hv : v.responses.length ≤ Config.responseRoom) :
    ResponsesOk (s.setPort p v) := by
  intro q
  rw [responses_setPort]
  split
  · exact hv
  · exact hs q

theorem responsesOk_overrun {s : State} (hs : ResponsesOk s) (p : PortId) : ResponsesOk (s.overrun p) :=
  responsesOk_setPort hs p (hs p)

theorem responsesOk_respond {s t : State} {p : PortId} (same : ∀ q, (t.port q).responses = (s.port q).responses) (hs : ResponsesOk s)
    (room : s.portFull p = false) (code : Byte) (status : Status) (payload : List Byte) :
    ResponsesOk (t.respond p code status payload) := by
  have free : (s.port p).responses.length < Config.responseRoom := by simpa [State.portFull] using room
  refine responsesOk_setPort (responsesOk_of same hs) p ?_
  rw [List.length_append, List.length_singleton, same]
  exact free

theorem responses_owner {c : Instr} {p : PortId} {code : Byte} {owner : State → Answer} (h : requestParts c = some (p, code, owner))
    (s : State) (q : PortId) : ((owner s).state.port q).responses = (s.port q).responses := by
  have counters (clear part : Nat) : ((s.answerCounters clear part).state.port q).responses = (s.port q).responses := by
    unfold State.answerCounters
    split
    · rfl
    · split
      · split <;> cases q <;> rfl
      · rfl
  cases c with
  | readCounters clear part => cases h; exact counters _ _
  | readCountersClear part => cases h; exact counters _ _
  | _ => cases h <;> exact congrArg Port.responses (port_congr (by simp) q)

theorem responsesOk_effect (c : Instr) {s : State} (hs : ResponsesOk s) : ResponsesOk (effect c s) := by
  cases h : requestParts c with
  | some parts =>
    obtain ⟨p, code, owner⟩ := parts
    rw [effect_request h, serve]
    split
    · exact responsesOk_overrun hs p
    next room => exact responsesOk_respond (responses_owner h s) hs (by simpa using room) code _ _
  | none =>
    have complete (p : PortId) (f : RawFrame) (reply : FrameVerdict → Option (Byte × Status)) :
        ResponsesOk (s.completeFrame p f reply) := by
      unfold State.completeFrame
      split
      · split
        · exact responsesOk_overrun hs p
        next room =>
          split
          · exact responsesOk_respond (fun _ => rfl) hs (by simpa using room) _ _ _
          · exact hs
      · exact hs
    rw [effect_event h]
    cases c with
    | badFrame p f => exact complete p f _
    | unknownRequest p f => exact complete p f _
    | responseOverrun p =>
      simp only [eventEffect]
      split
      · exact responsesOk_overrun hs p
      · exact hs
    | requestGapTimeout p received =>
      simp only [eventEffect, State.gapTimeout]
      split
      · exact responsesOk_setPort hs p (hs p)
      · exact hs
    | responseSent p =>
      refine responsesOk_setPort hs p ?_
      exact (List.length_tail.trans_le (Nat.sub_le _ _)).trans (hs p)
    | _ => first | cases h; done | exact responsesOk_of (fun q => congrArg Port.responses (port_congr (by simp [eventEffect, apply_ite State.ports]) q)) hs

/-! ### The closure queue, R155 -/

def ClosuresOk (s : State) : Prop := s.closures.length ≤ Config.closureRoom

theorem closuresOk_offer {s : State} (hs : ClosuresOk s) (o : Outlet) (ses : Session) (r : ClosureRecord) :
    ClosuresOk (s.offer o ses r) := by
  unfold State.offer
  split
  next free =>
    show (s.closures ++ [r]).length ≤ _
    rw [List.length_append]
    exact free
  next => exact hs

theorem closuresOk_answerRelease {s : State} (hs : ClosuresOk s) (number : Nat) : ClosuresOk (s.answerRelease number).state := by
  rcases answerRelease_cases s number with e | ⟨r, rest, queue, e⟩ <;> rw [e]
  · exact hs
  have short : rest.length + 1 ≤ Config.closureRoom := by
    rw [ClosuresOk, queue] at hs
    exact hs
  rcases admitWaiter_cases ({ s with closures := rest } : State) with ⟨_, e⟩ | ⟨o, ses, q, n, _, _, e⟩ <;> rw [e]
  · exact Nat.le_of_succ_le short
  · show (rest ++ [q]).length ≤ _
    rw [List.length_append]
    exact short

theorem closuresOk_effect (c : Instr) {s : State} (hs : ClosuresOk s) : ClosuresOk (effect c s) := by
  cases c with
  | releaseClosure number =>
    exact keeps_request (I := ClosuresOk) (c := .releaseClosure number) (fun _ _ h => h) rfl hs (closuresOk_answerRelease hs _)
  | settleDeadline o =>
    show ClosuresOk (s.settleDeadline o)
    rcases settleDeadline_cases s o with e | ⟨ses, reason, time, d, _, _, e⟩ <;> rw [e]
    · exact hs
    · exact closuresOk_offer hs o ses _
  | _ => exact (congrArg List.length (closures_effect s rfl)).trans_le hs

/-! ### The overdraw counts, R76 -/

def OverdrawOk (s : State) : Prop := ∀ o, (s.meter o).overdraw ≤ 3

theorem overdrawOk_congr {s t : State} (h : t.meters = s.meters) (hs : OverdrawOk s) : OverdrawOk t := fun o => by
  rw [meter_congr h]; exact hs o

theorem overdrawOk_setMeter {s : State} (hs : OverdrawOk s) (o : Outlet) {m : Meter} (hm : m.overdraw ≤ 3) :
    OverdrawOk (s.setMeter o m) := by
  intro p
  rw [meter_setMeter]
  split
  · exact hm
  · exact hs p

theorem overdrawOk_overdrawCheck {s : State} (hs : OverdrawOk s) (o : Outlet) (measured : Nat) : OverdrawOk (s.overdrawCheck o measured) := by
  have counted := overdrawOk_setMeter hs o (m := { s.meter o with overdraw := min 3 ((s.meter o).overdraw + 1) }) (Nat.min_le_left _ _)
  unfold State.overdrawCheck
  split
  · simp only
    split
    · exact overdrawOk_congr (by simp) counted
    · exact counted
  · exact overdrawOk_setMeter hs o (Nat.zero_le 3)

theorem overdrawOk_take {s : State} (hs : OverdrawOk s) (o : Outlet) : OverdrawOk (s.take o) := by
  unfold State.take
  split
  · split
    next r _ =>
      unfold State.freshTake State.sessionFresh
      simp only
      split
      · exact overdrawOk_overdrawCheck (overdrawOk_congr (by simp) hs) o _
      · exact overdrawOk_congr (by simp) hs
    · exact overdrawOk_congr (by simp) hs
  · exact hs

theorem overdrawOk_takes {s : State} (hs : OverdrawOk s) : OverdrawOk s.takes := by
  unfold State.takes
  exact foldl_keeps (I := OverdrawOk) (fun _ o h => overdrawOk_take h o) _ s hs

theorem overdrawOk_ofFn {s t : State} {f : Meter → Meter} (h : t.meters = Vector.ofFn fun o => f s.meters[o])
    (same : ∀ m, (f m).overdraw = m.overdraw) (hs : OverdrawOk s) : OverdrawOk t := fun o => by
  have e : t.meter o = f (s.meter o) := by rw [State.meter, h]; simp [State.meter]
  rw [e, same]
  exact hs o

theorem overdrawOk_answerCounters {s : State} (hs : OverdrawOk s) (clear part : Nat) :
    OverdrawOk (s.answerCounters clear part).state := by
  have cleared : OverdrawOk s.takeSnapshot.clearCounters := overdrawOk_ofFn rfl (fun _ => rfl) hs
  unfold State.answerCounters
  split
  · exact hs
  · split
    · split
      · exact cleared
      · exact hs
    · exact hs

theorem overdrawOk_millisecond {s : State} (hs : OverdrawOk s) : OverdrawOk s.millisecond :=
  overdrawOk_ofFn rfl (fun m => by cases h : m.filter <;> simp [Meter.tick, h]) hs

theorem overdrawOk_effect (c : Instr) {s : State} (hs : OverdrawOk s) : OverdrawOk (effect c s) := by
  cases c with
  | arm outlet hold plan cls ref =>
    refine keeps_request (I := OverdrawOk) (c := .arm outlet hold plan cls ref) (fun _ _ h => h) rfl hs ?_
    rcases answerArm_cases s outlet hold.toNat plan cls ref with e | ⟨o, n, _, _, _, _, e⟩ <;> rw [e]
    · exact hs
    · exact overdrawOk_setMeter (s := s.setSlot o _) hs o (Nat.zero_le 3)
  | readCounters clear part =>
    exact keeps_request (I := OverdrawOk) (c := .readCounters clear part) (fun _ _ h => h) rfl hs (overdrawOk_answerCounters hs _ _)
  | readCountersClear part =>
    exact keeps_request (I := OverdrawOk) (c := .readCountersClear part) (fun _ _ h => h) rfl hs (overdrawOk_answerCounters hs _ _)
  | cycleExpiry quiet =>
    show OverdrawOk (s.cycleExpiry quiet)
    rcases cycleExpiry_cases s quiet with e | ⟨d, _, e⟩ <;> rw [e]
    · exact hs
    · exact overdrawOk_congr (s := (s.rearm d).takes) (by simp) (overdrawOk_takes (overdrawOk_congr (by simp) hs))
  | pulseTaken o =>
    show OverdrawOk (s.takePulse o)
    rcases takePulse_cases s o with e | ⟨stamp, e⟩ <;> rw [e]
    · exact hs
    have taken := overdrawOk_setMeter hs o
      (m := { s.meter o with filter := .lowTaken, pulses := satAdd (s.meter o).pulses 1 }) (hs o)
    generalize s.setMeter o { s.meter o with filter := .lowTaken, pulses := satAdd (s.meter o).pulses 1 } = t at taken ⊢
    rcases attributePulse_cases t o (s.outletItems o).pulseWeight stamp with e | ⟨ses, _, _, _, e⟩ <;> rw [e]
    · exact overdrawOk_setMeter taken o (taken o)
    · exact overdrawOk_congr (by simp) taken
  | runt o =>
    show OverdrawOk (s.endRunt o)
    unfold State.endRunt
    split
    · exact overdrawOk_setMeter hs o (hs o)
    · exact hs
  | pulseLeadingEdge o =>
    show OverdrawOk (s.leadingEdge o)
    unfold State.leadingEdge
    split
    · exact overdrawOk_setMeter hs o (hs o)
    · exact hs
  | pulseInputHigh o =>
    show OverdrawOk (s.inputHigh o)
    unfold State.inputHigh
    split
    · exact overdrawOk_setMeter hs o (hs o)
    · exact overdrawOk_setMeter hs o (hs o)
    · exact hs
  | elapsedMillisecond => exact overdrawOk_millisecond hs
  | trimAdjustment =>
    rw [effect_event rfl]
    simp only [eventEffect]
    split
    · exact overdrawOk_millisecond hs
    · exact hs
  | _ => exact overdrawOk_congr (meters_effect s rfl) hs

end Sys2Proof.Proofs.Rooms
end

section
/-! What the commands leave of the line and of the dispatcher: everything but the start and the stop of the park, an opening and a cycle
expiry leaves every link's state and misses, the cycle number and the pending opening, and the power to share and its records. -/

namespace Sys2Proof.Proofs.LineAndShare

open Sys2Proof.Machine Sys2Proof.Safety Sys2Proof.Laws
open Sys2Proof.Proofs.Footprint Sys2Proof.Proofs.LineFrames

/-! ### The line -/

/-- What the line's own events leave: each link's state and misses, the cycle number, whether an opening pends. -/
def lineCore (s : State) : (Outlet → LinkState × Nat) × Nat × Bool :=
  (fun o => ((s.link o).link, (s.link o).miss), s.line.cycleNumber, s.line.openingPending)

theorem lineCore_congr {s t : State} (h : t.line = s.line) : lineCore t = lineCore s := by
  simp only [lineCore, State.link, h]

theorem lineCore_iff {s t : State} : lineCore t = lineCore s ↔
    (∀ o, (t.link o).link = (s.link o).link ∧ (t.link o).miss = (s.link o).miss) ∧
      t.line.cycleNumber = s.line.cycleNumber ∧ t.line.openingPending = s.line.openingPending := by
  simp only [lineCore, Prod.mk.injEq, funext_iff]

@[simp] theorem lineCore_setRx (s : State) (rx : LineRx) : lineCore (s.setRx rx) = lineCore s := rfl

theorem lineCore_discardFrame (s : State) (o : Outlet) : lineCore (s.discardFrame o) = lineCore s :=
  lineCore_congr (line_discardFrame' s o)

theorem lineCore_setLink {s : State} {o : Outlet} {l : OutletLink} (link : l.link = (s.link o).link) (miss : l.miss = (s.link o).miss) :
    lineCore (s.setLink o l) = lineCore s := by
  refine lineCore_iff.2 ⟨fun p => ?_, rfl, rfl⟩
  rw [link_setLink]
  split
  next e => rw [← e]; exact ⟨link, miss⟩
  next => exact ⟨rfl, rfl⟩

theorem lineCore_countDiscard (s : State) (o : Outlet) : lineCore (s.countDiscard o) = lineCore s := by
  unfold State.countDiscard
  rw [lineCore_setLink, lineCore_discardFrame]
  all_goals rw [link_congr (line_discardFrame' s o)]

@[simp] theorem lineCore_reportFrame (s : State) (o : Outlet) (body : List Byte) (ended : FrameEnd) :
    lineCore (s.reportFrame o body ended) = lineCore s := by
  unfold State.reportFrame State.judgeReport
  split
  · rw [lineCore_setRx]
    split
    · rfl
    · split
      · rfl
      · exact lineCore_countDiscard s o
  · rfl

@[simp] theorem lineCore_gapTimeOut (s : State) (o : Outlet) (chars : Nat) : lineCore (s.gapTimeOut o chars) = lineCore s := by
  unfold State.gapTimeOut
  split
  · exact lineCore_discardFrame s o
  · rfl

@[simp] theorem lineCore_reportDiscard (s : State) (o : Outlet) (chars : Nat) (ended : FrameEnd) :
    lineCore (s.reportDiscard o chars ended) = lineCore s := by
  unfold State.reportDiscard
  repeat' split
  · exact lineCore_countDiscard s o
  all_goals rfl

@[simp] theorem lineCore_rejectCharacter (s : State) (framing : Bool) : lineCore (s.rejectCharacter framing) = lineCore s := by
  unfold State.rejectCharacter
  split
  · show lineCore s.discardAssembling = _
    exact lineCore_congr (line_of_discarded rfl)
  · rfl

@[simp] theorem lineCore_unaddressedFrame (s : State) (addr : Byte) (ended : FrameEnd) :
    lineCore (s.unaddressedFrame addr ended) = lineCore s := by
  unfold State.unaddressedFrame
  repeat' split
  all_goals rfl

@[simp] theorem lineCore_answerCounters (s : State) (clear part : Nat) : lineCore (s.answerCounters clear part).state = lineCore s := by
  have cleared : lineCore s.takeSnapshot.clearCounters = lineCore s := by
    have link (o : Outlet) : s.takeSnapshot.clearCounters.link o = { s.link o with discards := 0 } := by
      simp [State.link, State.clearCounters, State.takeSnapshot, LineController.cleared]
    exact lineCore_iff.2 ⟨fun o => by rw [link]; exact ⟨rfl, rfl⟩, rfl, rfl⟩
  unfold State.answerCounters
  split
  · rfl
  · split
    · split
      · exact cleared
      · rfl
    · rfl

def writesLineCore : Instr → Bool
  | .startPark | .stopPark | .openingBegin | .cycleExpiry _ => true
  | _ => false

theorem lineCore_effect {c : Instr} (s : State) (h : writesLineCore c = false) : lineCore (effect c s) = lineCore s := by
  by_cases hc : writesLine c = false
  · exact lineCore_congr (line_effect s hc)
  refine field_effect lineCore (fun _ _ => rfl) c s (fun p code owner hp => ?_) fun _ => ?_
  · cases c <;> first | cases h; done | exact absurd rfl hc | cases hp <;> simp
  · cases c with
    | unaddressedCharacter =>
      show lineCore s.unaddressedCharacter = _
      unfold State.unaddressedCharacter
      split <;> rfl
    | openingEnd =>
      show lineCore s.openingEnd = _
      unfold State.openingEnd
      split <;> rfl
    | replyWindowClose =>
      show lineCore s.replyWindowClose = _
      unfold State.replyWindowClose
      repeat' split
      all_goals rfl
    | lineSeenHigh =>
      show lineCore s.lineSeenHigh = _
      unfold State.lineSeenHigh
      split <;> rfl
    | _ => first | cases h; done | exact absurd rfl hc | simp [eventEffect]

/-! ### The dispatcher -/

/-- The dispatcher but for the cap target. -/
def share (s : State) : Dispatcher := { s.dispatcher with capTarget := none }

theorem share_congr {s t : State} (h : t.dispatcher = s.dispatcher) : share t = share s := by rw [share, share, h]

def writesShare : Instr → Bool
  | .startPark | .stopPark | .cycleExpiry _ => true
  | _ => false

theorem share_effect {c : Instr} (s : State) (h : writesShare c = false) : share (effect c s) = share s := by
  by_cases hc : writesDispatcher c = false
  · exact share_congr (dispatcher_effect s hc)
  refine field_effect share (fun _ _ => rfl) c s (fun p code owner hp => ?_) fun hp => ?_
  · cases c <;> first | cases h; done | exact absurd rfl hc | cases hp <;> rfl
  · cases c with
    | targetExpiry =>
      show share s.targetExpiry = _
      unfold State.targetExpiry
      repeat' split
      all_goals rfl
    | _ => first | cases h; done | exact absurd rfl hc | cases hp

theorem record_of_share {s t : State} (h : share t = share s) (o : Outlet) : t.record o = s.record o := by
  have records : t.dispatcher.records = s.dispatcher.records := (congrArg Dispatcher.records h :)
  rw [State.record, State.record, records]

theorem caps_of_share {s t : State} (h : share t = share s) :
    t.dispatcher.effectiveCap = s.dispatcher.effectiveCap ∧ t.dispatcher.available = s.dispatcher.available :=
  ⟨(congrArg Dispatcher.effectiveCap h :), (congrArg Dispatcher.available h :)⟩

end Sys2Proof.Proofs.LineAndShare
end

section
/-! The start and the stop of the park and the configuration (R5, R8 to R15), by what each can do; the line and the excess counters through
them, the openings and the cycle; and with the queues and the numbers what every step keeps of all of these. -/

namespace Sys2Proof.Proofs.ParkMoves

open Sys2Proof.Machine Sys2Proof.Safety Sys2Proof.Laws

theorem not_operating {m : ParkMode} : m ≠ .operating ↔ m = .maintenance := by cases m <;> simp

theorem answerStartPark_cases (s : State) : s.answerStartPark.state = s ∨
    (s.control.mode = .maintenance ∧ s.control.failedCheck = none ∧ s.answerStartPark.state = s.startUp) := by
  unfold State.answerStartPark
  split
  · exact .inl rfl
  next mode =>
    split
    · exact .inl rfl
    next check => exact .inr ⟨not_operating.1 mode, check, rfl⟩

theorem answerStopPark_cases (s : State) : s.answerStopPark.state = s ∨
    (s.control.mode = .operating ∧ (∀ o, s.slot o = none) ∧ (∀ m, (s.module m).state.assigned = none) ∧
      s.answerStopPark.state = s.shutDown) := by
  unfold State.answerStopPark
  split
  · exact .inl rfl
  next mode =>
    split
    · exact .inl rfl
    next slots =>
      split
      · exact .inl rfl
      next moving =>
        refine .inr ⟨?_, fun o => ?_, fun m => ?_, rfl⟩
        · exact Classical.not_not.1 fun h => mode (not_operating.1 h)
        · simpa using (List.any_eq_false.1 (Bool.eq_false_iff.2 slots)) o (mem_allOutlets o)
        · simpa using (List.any_eq_false.1 (Bool.eq_false_iff.2 moving)) m (mem_allModules m)

theorem answerConfigWrite_cases (s : State) (item index : Byte) (value : BitVec 32) :
    (s.answerConfigWrite item index value).state = s ∨
      (s.control.mode = .maintenance ∧ ∃ r v, (s.answerConfigWrite item index value).state =
        { s with control := s.control.write v r }) := by
  unfold State.answerConfigWrite
  split
  · exact .inl rfl
  next mode =>
    split
    · exact .inl rfl
    · split
      · exact .inr ⟨not_operating.1 mode, _, _, rfl⟩
      · exact .inl rfl

theorem link_startUp (s : State) (o : Outlet) : s.startUp.link o = (s.link o).started := by
  simp [State.link, State.startUp]

theorem link_shutDown (s : State) (o : Outlet) : s.shutDown.link o = (s.link o).stopped := by
  simp [State.link, State.shutDown]

theorem exchange_startUp (s : State) (o : Outlet) : s.startUp.exchange o = .reset := by
  simp [State.exchange, State.startUp]

theorem exchange_shutDown (s : State) (o : Outlet) :
    s.shutDown.exchange o = (s.exchange o).stopped (s.line.rx.isAssembling o) := by
  simp [State.exchange, State.shutDown]

theorem record_startUp (s : State) (o : Outlet) : s.startUp.record o = .starting := by simp [State.record, State.startUp]

theorem record_shutDown (s : State) (o : Outlet) : s.shutDown.record o = .starting := by simp [State.record, State.shutDown]

theorem module_startUp (s : State) (m : ModuleNo) : s.startUp.module m = (s.module m).setUp s.control.modules[m] := by
  simp [State.module, State.startUp]

theorem unassigned_setUp (m : Module) (c : ModuleItems) : (m.setUp c).state.assigned = none := by
  unfold Module.setUp
  simp only
  split
  · split <;> rfl
  · rfl

end Sys2Proof.Proofs.ParkMoves

namespace Sys2Proof.Proofs.Rooms

open Sys2Proof.Machine Sys2Proof.Safety Sys2Proof.Laws
open Sys2Proof.Proofs.Footprint Sys2Proof.Proofs.Accounts Sys2Proof.Proofs.LedgerWriters Sys2Proof.Proofs.Takes
open Sys2Proof.Proofs.Numbers Sys2Proof.Proofs.LineAndShare Sys2Proof.Proofs.ParkMoves Sys2Proof.Proofs.Openings
open Sys2Proof.Proofs.TakeStatements Sys2Proof.Proofs.Dispatching

/-! ### The misses and the cycle number, R105 and R111 -/

def LineOk (s : State) : Prop := (∀ o, (s.link o).miss ≤ 255) ∧ s.line.cycleNumber < 65536

theorem lineOk_of_core {s t : State} (h : lineCore t = lineCore s) (hs : LineOk s) : LineOk t := by
  obtain ⟨misses, cycle⟩ := hs
  obtain ⟨links, cycle', _⟩ := lineCore_iff.1 h
  exact ⟨fun o => by rw [(links o).2]; exact misses o, by rwa [cycle']⟩

theorem lineOk_congr {s t : State} (h : t.line = s.line) (hs : LineOk s) : LineOk t := lineOk_of_core (lineCore_congr h) hs

theorem lineOk_setLink {s : State} (hs : LineOk s) (o : Outlet) {l : OutletLink} (hl : l.miss ≤ 255) : LineOk (s.setLink o l) := by
  refine ⟨fun p => ?_, hs.2⟩
  rw [link_setLink]
  split
  · exact hl
  · exact hs.1 p

theorem lineOk_take {s : State} (hs : LineOk s) (o : Outlet) : LineOk (s.take o) := by
  unfold State.take
  split
  · split
    next r _ => exact lineOk_congr (line_freshTake s o r) (lineOk_setLink hs o (Nat.zero_le _))
    · refine lineOk_congr (line_staleTake s o) ⟨fun p => ?_, ?_⟩
      · rw [link_afterMiss]
        split
        · exact Nat.min_le_left _ _
        · exact hs.1 p
      · unfold afterMiss
        exact hs.2
  · exact hs

theorem lineOk_takes {s : State} (hs : LineOk s) : LineOk s.takes := by
  unfold State.takes
  exact foldl_keeps (I := LineOk) (fun _ o h => lineOk_take h o) _ s hs

theorem lineOk_beginOpening {s : State} (hs : LineOk s) : LineOk s.beginOpening :=
  ⟨fun o => by rw [link_beginOpening]; exact hs.1 o, Nat.mod_lt _ (by decide)⟩

theorem lineOk_handOver {s : State} (hs : LineOk s) (quiet : Bool) : LineOk (s.handOver quiet) := by
  have skipped : LineOk s.skipPending := by
    unfold State.skipPending
    split <;> exact hs
  unfold State.handOver
  simp only
  split
  · exact lineOk_beginOpening (s := { s.skipPending with line := { s.skipPending.line with openingPending := true } }) skipped
  · exact skipped

theorem lineOk_effect (c : Instr) {s : State} (hs : LineOk s) : LineOk (effect c s) := by
  cases c with
  | startPark =>
    refine keeps_request (I := LineOk) (c := .startPark) (fun _ _ h => h) rfl hs ?_
    rcases answerStartPark_cases s with e | ⟨_, _, e⟩ <;> rw [e]
    · exact hs
    · exact ⟨fun o => by rw [link_startUp]; exact Nat.zero_le _, Nat.zero_lt_succ _⟩
  | stopPark =>
    refine keeps_request (I := LineOk) (c := .stopPark) (fun _ _ h => h) rfl hs ?_
    rcases answerStopPark_cases s with e | ⟨_, _, _, e⟩ <;> rw [e]
    · exact hs
    · exact ⟨fun o => by rw [link_shutDown]; exact Nat.zero_le _, hs.2⟩
  | openingBegin =>
    show LineOk s.openingBegin
    unfold State.openingBegin
    split
    · exact lineOk_beginOpening hs
    · exact hs
  | cycleExpiry quiet =>
    show LineOk (s.cycleExpiry quiet)
    rcases cycleExpiry_cases s quiet with e | ⟨d, _, e⟩ <;> rw [e]
    · exact hs
    · exact lineOk_handOver (lineOk_congr (line_dispatch _) (lineOk_takes (lineOk_congr (line_rearm s d) hs))) quiet
  | _ => exact lineOk_of_core (lineCore_effect s rfl) hs

/-! ### The excess counters, R130 -/

def ExcessOk (s : State) : Prop := ∀ o, (s.record o).excess ≤ 255

theorem excessOk_congr {s t : State} (h : t.dispatcher = s.dispatcher) (hs : ExcessOk s) : ExcessOk t := fun o => by
  rw [record_congr h]; exact hs o

theorem excessOk_setRecord {s : State} (hs : ExcessOk s) (o : Outlet) {r : DispatchRecord} (hr : r.excess ≤ 255) :
    ExcessOk (s.setRecord o r) := by
  intro p
  rw [record_setRecord]
  split
  · exact hr
  · exact hs p

theorem excessOk_ceilingStage {s : State} (hs : ExcessOk s) : ExcessOk s.ceilingStage := by
  intro o
  rw [record_ceilingStage]
  unfold State.ceilingRecord
  split
  · exact hs o
  · split
    · exact Nat.zero_le _
    · exact hs o

theorem excessOk_grantStage {s : State} (hs : ExcessOk s) : ExcessOk s.grantStage := by
  intro o
  rw [record_grantStage]
  unfold State.grantRecord
  split
  · split <;> exact hs o
  · exact hs o

theorem excessOk_excessFor {s : State} (hs : ExcessOk s) (c : Claim) : ExcessOk (s.excessFor c) := by
  have counted : s.countedExcess c.outlet ≤ 255 := by
    unfold State.countedExcess
    split
    · exact Nat.min_le_left _ _
    · exact Nat.zero_le _
  unfold State.excessFor
  simp only
  split
  · split
    · exact excessOk_congr (s := s.setRecord _ _) rfl (excessOk_setRecord hs _ (Nat.zero_le _))
    · exact excessOk_setRecord hs _ counted
  · exact excessOk_setRecord hs _ counted

theorem excessOk_dispatch {s : State} (hs : ExcessOk s) : ExcessOk s.dispatch := by
  have granted : ExcessOk (capped s).ceilingStage.grantStage :=
    excessOk_grantStage (excessOk_ceilingStage fun o => by rw [record_capped]; exact hs o)
  rw [dispatch_eq]
  unfold State.moduleStage
  exact foldl_keeps (I := ExcessOk) (fun _ c h => excessOk_excessFor h c) _ _
    (foldl_keeps (I := ExcessOk) (fun u c h => excessOk_congr (dispatcher_requestFor u c) h) _ _ granted)

theorem excessOk_effect (c : Instr) {s : State} (hs : ExcessOk s) : ExcessOk (effect c s) := by
  cases c with
  | startPark =>
    refine keeps_request (I := ExcessOk) (c := .startPark) (fun _ _ h => h) rfl hs ?_
    rcases answerStartPark_cases s with e | ⟨_, _, e⟩ <;> rw [e]
    · exact hs
    · exact fun o => by rw [record_startUp]; exact Nat.zero_le _
  | stopPark =>
    refine keeps_request (I := ExcessOk) (c := .stopPark) (fun _ _ h => h) rfl hs ?_
    rcases answerStopPark_cases s with e | ⟨_, _, _, e⟩ <;> rw [e]
    · exact hs
    · exact fun o => by rw [record_shutDown]; exact Nat.zero_le _
  | cycleExpiry quiet =>
    show ExcessOk (s.cycleExpiry quiet)
    rcases cycleExpiry_cases s quiet with e | ⟨d, _, e⟩ <;> rw [e]
    · exact hs
    · exact excessOk_congr (dispatcher_handOver _ quiet) (excessOk_dispatch (excessOk_congr (by simp) hs))
  | _ => exact fun o => by rw [record_of_share (share_effect s rfl)]; exact hs o

/-! ### The numbers through every command -/

theorem numbersOk_evaluated {s : State} (hs : NumbersOk s) {o : Outlet} {ses v : Session} (h : s.slot o = some ses)
    (e : holder v = holder ses) {f : State → State} (ledger' : ∀ t, ledger (f t) = ledger t) (queue : ∀ t, (f t).closures = t.closures) :
    NumbersOk (f (s.setSlot o (some v))) :=
  numbersOk_of_ledger (ledger' _) (queue _) (numbersOk_congr (holders_setSlot_same h e) rfl rfl hs)

theorem numbersOk_takePulse {s : State} (hs : NumbersOk s) (o : Outlet) : NumbersOk (s.takePulse o) := by
  rcases takePulse_cases s o with e | ⟨stamp, e⟩ <;> rw [e]
  · exact hs
  generalize (s.outletItems o).pulseWeight = w
  have metered : NumbersOk (s.setMeter o { s.meter o with filter := .lowTaken, pulses := satAdd (s.meter o).pulses 1 }) := hs
  generalize s.setMeter o { s.meter o with filter := .lowTaken, pulses := satAdd (s.meter o).pulses 1 } = t at metered ⊢
  rcases attributePulse_cases t o w stamp with e | ⟨ses, h, _, _, e⟩ <;> rw [e]
  · exact metered
  · exact numbersOk_evaluated metered h (v := ses.bill w stamp) rfl (f := fun t => t.evaluateFunds o) (fun t => ledger_evaluateFunds t o)
      fun t => closures_evaluateFunds t o

theorem numbersOk_answerTopup {s : State} (hs : NumbersOk s) (number amount : Nat) : NumbersOk (s.answerTopup number amount).state := by
  rcases answerTopup_cases s number amount with e | ⟨o, ses, h, _, _, e⟩ <;> rw [e]
  · exact hs
  · exact numbersOk_evaluated hs h (v := { ses with hold := ses.hold + amount }) rfl (f := fun t => t.evaluateTopup o) (fun t => ledger_evaluateTopup t o)
      fun t => closures_evaluateTopup t o

theorem numbersOk_ports (s : State) (q : RequestPorts) (hs : NumbersOk s) : NumbersOk { s with ports := q } :=
  numbersOk_congr rfl rfl rfl hs

theorem numbersOk_effect (c : Instr) {s : State} (room : ClosuresOk s) (hs : NumbersOk s) : NumbersOk (effect c s) := by
  cases c with
  | arm outlet hold plan cls ref =>
    exact keeps_request (I := NumbersOk) (c := .arm outlet hold plan cls ref) numbersOk_ports rfl hs
      (numbersOk_answerArm room hs outlet _ plan cls ref)
  | topup number amount =>
    exact keeps_request (I := NumbersOk) (c := .topup number amount) numbersOk_ports rfl hs (numbersOk_answerTopup hs _ _)
  | releaseClosure number =>
    exact keeps_request (I := NumbersOk) (c := .releaseClosure number) numbersOk_ports rfl hs (numbersOk_answerRelease hs _)
  | pulseTaken o => exact numbersOk_takePulse hs o
  | settleDeadline o => exact numbersOk_settleDeadline room hs o
  | _ => exact numbersOk_of_ledger (ledger_effect s rfl) (closures_effect s rfl) hs

/-! ### Every step -/

/-- The capacities, the ranges and the numbers, each on its own. -/
def Kept (s : State) : Prop := ClosuresOk s ∧ ResponsesOk s ∧ OverdrawOk s ∧ LineOk s ∧ ExcessOk s ∧ NumbersOk s

theorem kept_iff (s : State) : Kept s ↔ RoomInv s ∧ WaitsOnlyWhenFull s ∧ NumbersInv s := by
  constructor
  · rintro ⟨closures, responses, overdraw, ⟨miss, cycle⟩, excess, numbers⟩
    obtain ⟨distinct, waits⟩ := (numbersOk_iff s).1 numbers
    exact ⟨⟨closures, responses .settlement, responses .site, overdraw, miss, excess, cycle⟩, waits, distinct⟩
  · rintro ⟨⟨closures, settlement, site, overdraw, miss, excess, cycle⟩, waits, distinct⟩
    exact ⟨closures, fun p => by cases p; exacts [settlement, site], overdraw, ⟨miss, cycle⟩, excess,
      (numbersOk_iff s).2 ⟨distinct, waits⟩⟩

theorem kept_effect (c : Instr) (s : State) (h : Kept s) : Kept (effect c s) := by
  obtain ⟨closures, responses, overdraw, line, excess, numbers⟩ := h
  exact ⟨closuresOk_effect c closures, responsesOk_effect c responses, overdrawOk_effect c overdraw, lineOk_effect c line,
    excessOk_effect c excess, numbersOk_effect c closures numbers⟩

theorem roomInv_reset : RoomInv State.reset := by
  refine ⟨by decide, by decide, by decide, ?_, ?_, ?_, by decide⟩ <;> decide

theorem vacant_reset : ∀ o, State.reset.slot o = none := by decide

theorem waits_reset : WaitsOnlyWhenFull State.reset := fun o ses r t h => by
  rw [vacant_reset o] at h
  cases h

theorem numbersInv_reset : NumbersInv State.reset := by
  have none' : State.reset.heldNumbers = [] := by decide
  refine ⟨by rw [none']; exact List.nodup_nil, by rw [none']; exact List.not_mem_nil, fun n hn => ?_, fun o ses r t h => ?_⟩
  · rw [none', List.mem_singleton] at hn
    rw [hn]
    decide
  · rw [vacant_reset o] at h
    cases h

theorem kept_reset : Kept State.reset := (kept_iff _).2 ⟨roomInv_reset, waits_reset, numbersInv_reset⟩

/-- Settles O60: each capacity and each counter through its writers, the numbers through the five commands that fill, vacate or rewrite a
slot. -/
theorem queuesAndNumbersKept : Obligations.QueuesAndNumbersKept := by
  intro s t room waits numbers h
  exact (kept_iff t).1 (step_keeps Kept (fun _ _ h => h) kept_reset (fun _ _ h => h) (fun _ _ h => h) (fun _ h => h) kept_effect s t
    ((kept_iff s).2 ⟨room, waits, numbers⟩) h)

end Sys2Proof.Proofs.Rooms
end

section
/-! What a command may do to the modules, to the cabinet queue and to the slots that modules serve (R47, R57, R59, R136 to R151): one relation
from a state to a later one, closed under composition, and each operation of the model within it. -/

namespace Sys2Proof.Proofs.ModuleMoves

open Sys2Proof.Machine Sys2Proof.Safety Sys2Proof.Laws
open Sys2Proof.Proofs.Footprint Sys2Proof.Proofs.Accounts Sys2Proof.Proofs.LedgerWriters Sys2Proof.Proofs.Takes
open Sys2Proof.Proofs.TakeStatements Sys2Proof.Proofs.ModuleEvents

/-! ### One module -/

/-- A module gains no assignment, no holding and no outlet to serve, and stays as R136 to R148 want it. -/
def ModuleStep (a b : Module) : Prop :=
  (∀ o, b.state.assigned = some o → a.state.assigned = some o) ∧ (∀ o, b.state.heldBy = some o → a.state.heldBy = some o) ∧
    (∀ o, servingOutlet b.state = some o → servingOutlet a.state = some o) ∧ (ModuleOk a → ModuleOk b)

theorem ModuleStep.refl (a : Module) : ModuleStep a a := ⟨fun _ h => h, fun _ h => h, fun _ h => h, fun h => h⟩

theorem ModuleStep.trans {a b c : Module} (h : ModuleStep a b) (h' : ModuleStep b c) : ModuleStep a c := by
  obtain ⟨assigned, held, serving, ok⟩ := h
  obtain ⟨assigned', held', serving', ok'⟩ := h'
  exact ⟨fun o ho => assigned o (assigned' o ho), fun o ho => held o (held' o ho), fun o ho => serving o (serving' o ho),
    fun ho => ok' (ok ho)⟩

theorem assigned_of_heldBy {st : ModuleState} {o : Outlet} (h : st.heldBy = some o) : st.assigned = some o := by
  cases st <;> cases h <;> rfl

theorem assigned_of_serving {st : ModuleState} {o : Outlet} (h : servingOutlet st = some o) : st.assigned = some o := by
  cases st with
  | switching p d opens => cases opens <;> cases h; rfl
  | _ => cases h <;> rfl

theorem moduleOk_unassigned {m : Module} (none' : m.state.assigned = none) : ModuleOk m ↔
    (m.leaving = true → ∃ r, m.state = .faulted r) ∧
      (m.indication = .faultOn → m.state = .outOfService ∨ m.state = .faulted .cabinetFault) := by
  simp [ModuleOk, none']

/-- A module that keeps its assignment. -/
theorem moduleStep_moved {a : Module} {st : ModuleState} {p : Outlet} (used : a.state.assigned = some p) (same : st.assigned = some p)
    (held : ∀ o, st.heldBy = some o → a.state.heldBy = some o)
    (serving : ∀ o, servingOutlet st = some o → servingOutlet a.state = some o) : ModuleStep a { a with state := st } := by
  refine ⟨fun o h => used.trans (same.symm.trans h), held, serving, ?_⟩
  rintro ⟨reach, _, faulty⟩
  refine ⟨fun o h => reach o (used.trans (same.symm.trans h)), fun _ => .inl (same ▸ rfl), fun on => ?_⟩
  rcases faulty on with e | e <;> rw [e] at used <;> cases used

/-- A module that is left without an assignment. -/
theorem moduleStep_left {a b : Module} (none' : b.state.assigned = none) (ok : ModuleOk a → ModuleOk b) : ModuleStep a b := by
  have no {o : Outlet} : b.state.assigned ≠ some o := by rw [none']; exact nofun
  exact ⟨fun o h => absurd h no, fun o h => absurd (assigned_of_heldBy h) no, fun o h => absurd (assigned_of_serving h) no, ok⟩

theorem indication_of_assigned {a : Module} (h : ModuleOk a) {o : Outlet} (used : a.state.assigned = some o) :
    a.indication ≠ .faultOn := by
  intro on
  rcases h.2.2 on with e | e <;> rw [e] at used <;> cases used

theorem moduleStep_faulted {a : Module} {o : Outlet} (used : a.state.assigned = some o) (r : FaultReason) :
    ModuleStep a { a with state := .faulted r } :=
  moduleStep_left rfl fun ok => (moduleOk_unassigned rfl).2 ⟨fun _ => ⟨r, rfl⟩, fun on => absurd on (indication_of_assigned (a := a) ok used)⟩

theorem moduleStep_faultOn (a : Module) : ModuleStep a { a with indication := .faultOn, state := .faulted .cabinetFault } :=
  moduleStep_left rfl fun _ => (moduleOk_unassigned rfl).2 ⟨fun _ => ⟨_, rfl⟩, fun _ => .inr rfl⟩

/-- A module whose leaving mark is gone and that is in no use. -/
theorem moduleStep_retired (a : Module) : ModuleStep a { a with state := .outOfService, leaving := false } :=
  moduleStep_left rfl fun _ => (moduleOk_unassigned rfl).2 ⟨nofun, fun _ => .inl rfl⟩

/-! ### The pool -/

def PoolMoves (s t : State) : Prop := (∀ m, ModuleStep (s.module m) (t.module m)) ∧ (CabinetInv s → CabinetInv t)

theorem PoolMoves.trans {s t u : State} (h : PoolMoves s t) (h' : PoolMoves t u) : PoolMoves s u :=
  ⟨fun m => (h.1 m).trans (h'.1 m), fun hs => h'.2 (h.2 hs)⟩

theorem cabinetInv_congr {s t : State} (e : t.pool.cabinet = s.pool.cabinet) (h : CabinetInv s) : CabinetInv t := by
  unfold CabinetInv
  rwa [e]

theorem poolMoves_of_pool {s t : State} (e : t.pool = s.pool) : PoolMoves s t :=
  ⟨fun m => by rw [module_congr e]; exact .refl _, cabinetInv_congr (congrArg ModulePool.cabinet e)⟩

theorem poolMoves_foldl {α : Type} {f : State → α → State} (h : ∀ s a, PoolMoves s (f s a)) (l : List α) :
    ∀ s, PoolMoves s (l.foldl f s) := by
  induction l with
  | nil => exact fun s => poolMoves_of_pool rfl
  | cons a rest ih => exact fun s => (h s a).trans (ih _)

theorem poolMoves_setModule {s : State} {m : ModuleNo} {v : Module} (h : ModuleStep (s.module m) v) : PoolMoves s (s.setModule m v) := by
  refine ⟨fun k => ?_, cabinetInv_congr rfl⟩
  rw [module_setModule]
  split
  next e => rw [← e]; exact h
  next => exact .refl _

/-- R151: what begins sending leaves the queue. -/
theorem cabinetInv_pump {s : State} {c : CabinetLink} (nodup : (c.waiting.map CabinetMsg.module).Nodup) :
    CabinetInv (s.setCabinet c.pump) := by
  rw [CabinetInv, cabinet_setCabinet]
  unfold CabinetLink.pump
  split
  next head rest _ waiting =>
    rw [waiting] at nodup
    exact ⟨(List.nodup_cons.1 nodup).2, nofun⟩
  next busy =>
    refine ⟨nodup, fun idle => ?_⟩
    cases h : c.waiting with
    | nil => rfl
    | cons head rest => exact absurd h (busy head rest idle)

theorem cabinetInv_issue {s : State} (msg : CabinetMsg) (h : CabinetInv s) : CabinetInv (s.issue msg) :=
  cabinetInv_pump (c := { s.pool.cabinet with waiting := enqueue s.pool.cabinet.waiting msg }) (modules_enqueue_nodup msg h.1)

theorem poolMoves_issue (s : State) (msg : CabinetMsg) : PoolMoves s (s.issue msg) :=
  ⟨fun _ => .refl _, cabinetInv_issue msg⟩

theorem poolMoves_openModule {s : State} {m : ModuleNo} {o : Outlet} (used : (s.module m).state.assigned = some o) :
    PoolMoves s (s.openModule m o) :=
  (poolMoves_issue s _).trans (poolMoves_setModule (s := s.issue (.unroute m)) (moduleStep_moved used rfl nofun nofun))

theorem poolMoves_drainModule {s : State} {m : ModuleNo} {o : Outlet} (used : (s.module m).state.assigned = some o) :
    PoolMoves s (s.drainModule m o) := poolMoves_setModule (moduleStep_moved used rfl nofun nofun)

theorem poolMoves_releaseModule (s : State) (m : ModuleNo) : PoolMoves s (s.releaseModule m) := by
  unfold State.releaseModule
  cases st : (s.module m).state with
  | switching o d opens =>
    exact poolMoves_setModule (moduleStep_moved (by rw [st]; rfl) rfl (fun p h => by rw [st]; exact h) nofun)
  | warming o d => exact poolMoves_openModule (by rw [st]; rfl)
  | active o => exact poolMoves_drainModule (by rw [st]; rfl)
  | _ => exact poolMoves_of_pool rfl

theorem poolMoves_outletRelease (s : State) (o : Outlet) : PoolMoves s (s.outletRelease o) := by
  unfold State.outletRelease
  refine poolMoves_foldl (fun s m => ?_) _ s
  unfold State.releaseIfAssigned
  split
  · exact poolMoves_releaseModule s m
  · exact poolMoves_of_pool rfl

theorem poolMoves_setAndRelease (s : State) (o : Outlet) (ses : Session) : PoolMoves s (s.setAndRelease o ses) :=
  (poolMoves_of_pool (pool_setSlot s o _)).trans (poolMoves_outletRelease _ o)

theorem poolMoves_enterStopping (s : State) (o : Outlet) (reason : EndReason) : PoolMoves s (s.enterStopping o reason) := by
  unfold State.enterStopping
  split
  · exact poolMoves_of_pool rfl
  next ses _ =>
    exact (poolMoves_setAndRelease s o { ses.leaveParked with state := .stopping reason s.clock.parkTime none }).trans
      (poolMoves_of_pool (by simp))

theorem poolMoves_unassign {s : State} {m : ModuleNo} {st : ModuleState} (h : ModuleStep (s.module m) { s.module m with state := st }) :
    PoolMoves s (s.unassign m st) := by
  unfold State.unassign
  split
  · exact (poolMoves_setModule h).trans (poolMoves_of_pool (pool_reportIfEmpty _ _))
  · exact poolMoves_setModule h

/-! ### Modules that serve, and settle deadlines -/

/-- The settle deadline of a STOPPING session. -/
def stoppingOf : SessionState → Option (Option Nat)
  | .stopping _ _ d => some d
  | _ => none

def settling (s : State) (o : Outlet) : Option (Option Nat) := (s.slot o).bind fun ses => stoppingOf ses.state

theorem settling_some {s : State} {o : Outlet} {ses : Session} (h : s.slot o = some ses) : settling s o = stoppingOf ses.state := by
  rw [settling, h]
  rfl

theorem isCharging_some {s : State} {o : Outlet} {ses : Session} (h : s.slot o = some ses) :
    s.isCharging o = (ses.state == .charging) := by
  rw [State.isCharging, h]
  rfl

theorem settleMatches_iff (s : State) : SettleMatchesHolding s ↔
    ∀ o d, settling s o = some d → (d.isSome = true ↔ s.outletHolds o = false) := by
  constructor
  · intro h o d hd
    obtain ⟨ses, slot, st⟩ := Option.bind_eq_some_iff.1 hd
    cases e : ses.state with
    | stopping r t d' =>
      rw [e] at st
      cases st
      exact h o ses r t d slot e
    | _ => rw [e] at st; cases st
  · intro h o ses r t d slot st
    exact h o d (by rw [settling_some slot, st]; rfl)

/-- The two properties are carried over where no module gains an outlet to serve that is not in CHARGING, and each STOPPING session's
outlet holds as before or has its deadline by now. -/
theorem releaseInv_of {s t : State}
    (serving : ∀ m o, servingOutlet (t.module m).state = some o →
      t.isCharging o = true ∨ (servingOutlet (s.module m).state = some o ∧ (s.isCharging o = true → t.isCharging o = true)))
    (settles : ∀ o d, settling t o = some d → (settling s o = some d ∧ t.outletHolds o = s.outletHolds o) ∨
      (d.isSome = true ↔ t.outletHolds o = false)) (h : ReleaseInv s) : ReleaseInv t := by
  obtain ⟨serves, matches'⟩ := h
  rw [settleMatches_iff] at matches'
  refine ⟨fun m o hm => ?_, (settleMatches_iff t).2 fun o d hd => ?_⟩
  · rcases serving m o hm with e | ⟨before, kept⟩
    · exact e
    · exact kept (serves m o before)
  · rcases settles o d hd with ⟨before, same⟩ | e
    · rw [same]; exact matches' o d before
    · exact e

theorem releaseInv_congr {s t : State} (pool : t.pool = s.pool) (charging : ∀ o, s.isCharging o = true → t.isCharging o = true)
    (settles : ∀ o d, settling t o = some d → settling s o = some d) (h : ReleaseInv s) : ReleaseInv t :=
  releaseInv_of (fun m o hm => .inr ⟨by rwa [module_congr pool] at hm, charging o⟩)
    (fun o d hd => .inl ⟨settles o d hd, outletHolds_congr pool o⟩) h

theorem outletHolds_of_assigned {s t : State} (h : ∀ m, (t.module m).state.assigned = (s.module m).state.assigned) (o : Outlet) :
    t.outletHolds o = s.outletHolds o := by
  simp only [State.outletHolds, h]

theorem releaseInv_setModule {s : State} {m : ModuleNo} {v : Module} (same : v.state.assigned = (s.module m).state.assigned)
    (serving : ∀ o, servingOutlet v.state = some o → servingOutlet (s.module m).state = some o) (h : ReleaseInv s) :
    ReleaseInv (s.setModule m v) := by
  refine releaseInv_of (s := s) (fun k o hk => .inr ⟨?_, fun h => h⟩) (fun o d hd => .inl ⟨hd, outletHolds_of_assigned (fun k => ?_) o⟩) h
  · rw [module_setModule] at hk
    split at hk
    next e => rw [← e]; exact serving o hk
    next => exact hk
  · rw [module_setModule]
    split
    next e => rw [← e]; exact same
    next => rfl

/-- R59: an outlet whose session is told so when the last module leaves. -/
theorem settling_reported {s t : State} {o : Outlet} (told : SettleReported s t o) {d : Option Nat} (hd : settling t o = some d) :
    (settling s o = some d ∧ (t.outletHolds o = true ∨ d.isSome = true)) ∨ (d.isSome = true ∧ t.outletHolds o = false) := by
  unfold SettleReported at told
  cases h : s.slot o with
  | none =>
    rw [settling, told, h] at hd
    cases hd
  | some ses =>
    rw [settling, told, h] at hd
    rw [settling_some h]
    cases st : ses.state with
    | stopping r n e =>
      cases e with
      | some e =>
        simp only [Option.map_some, st, Option.bind_some] at hd
        exact .inl ⟨hd, .inr (by cases hd; rfl)⟩
      | none =>
        simp only [Option.map_some, st, Option.bind_some] at hd
        split at hd
        next holds =>
          rw [st] at hd
          exact .inl ⟨hd, .inl holds⟩
        next free =>
          cases hd
          exact .inr ⟨rfl, Bool.eq_false_iff.2 free⟩
    | _ => simp only [Option.map_some, st, Option.bind_some] at hd; cases hd

theorem isCharging_reported {s t : State} {o : Outlet} (told : SettleReported s t o) : t.isCharging o = s.isCharging o := by
  unfold SettleReported at told
  rw [State.isCharging, State.isCharging, told]
  cases h : s.slot o with
  | none => rfl
  | some ses =>
    cases st : ses.state with
    | stopping r n e => cases e <;> simp [st]; split <;> simp [st]
    | _ => simp [st]

theorem outletHolds_iff {s : State} {o : Outlet} : s.outletHolds o = true ↔ ∃ m, (s.module m).state.assigned = some o := by
  simp [State.outletHolds, List.any_eq_true, mem_allModules]

theorem releaseInv_unassign {s : State} {m : ModuleNo} {st : ModuleState} (left : st.assigned = none) (h : ReleaseInv s) :
    ReleaseInv (s.unassign m st) := by
  have idle {o : Outlet} : servingOutlet st ≠ some o := fun e => by
    rw [assigned_of_serving e] at left
    cases left
  cases used : (s.module m).state.assigned with
  | none =>
    rw [unassign_none st used]
    exact releaseInv_setModule (left.trans used.symm) (fun o e => absurd e idle) h
  | some p =>
    obtain ⟨modules, told, others, _⟩ := unassign_some st used
    have charging (o : Outlet) : (s.unassign m st).isCharging o = s.isCharging o := by
      by_cases e : o = p
      · rw [e]; exact isCharging_reported told
      · rw [State.isCharging, State.isCharging, others o e]
    have fewer {o : Outlet} (holds : (s.unassign m st).outletHolds o = true) : s.outletHolds o = true := by
      obtain ⟨k, hk⟩ := outletHolds_iff.1 holds
      rw [modules] at hk
      split at hk
      · rw [left] at hk; cases hk
      · exact outletHolds_iff.2 ⟨k, hk⟩
    have same {o : Outlet} (ne : o ≠ p) : (s.unassign m st).outletHolds o = s.outletHolds o := by
      refine Bool.eq_iff_iff.2 ⟨fewer, fun holds => ?_⟩
      obtain ⟨k, hk⟩ := outletHolds_iff.1 holds
      refine outletHolds_iff.2 ⟨k, ?_⟩
      rw [modules, if_neg]
      · exact hk
      · rintro rfl
        exact ne (Option.some.inj (hk.symm.trans used))
    have held : s.outletHolds p = true := outletHolds_iff.2 ⟨m, used⟩
    refine releaseInv_of (fun k o hk => .inr ⟨?_, fun h => (charging o).trans h⟩) (fun o d hd => ?_) h
    · rw [modules] at hk
      split at hk
      · exact absurd hk idle
      · exact hk
    · by_cases e : o = p
      · subst e
        rcases settling_reported told hd with ⟨before, now⟩ | ⟨set, free⟩
        · have before' := ((settleMatches_iff s).1 h.2 o d before)
          rw [held] at before'
          rcases now with now | now
          · exact .inr ⟨fun set => absurd (before'.1 set) nofun, fun free => by rw [now] at free; cases free⟩
          · exact absurd (before'.1 now) nofun
        · exact .inr ⟨fun _ => free, fun _ => set⟩
      · exact .inl ⟨by rwa [settling, others o e, ← settling] at hd, same e⟩

end Sys2Proof.Proofs.ModuleMoves
end

section
/-! Every command within the relation of ModuleMoves but the start of the park and the module requests of a dispatch: sessions that leave
CHARGING release their modules, and modules that leave an outlet are reported to it. -/

namespace Sys2Proof.Proofs.CommandMoves

open Sys2Proof.Machine Sys2Proof.Safety Sys2Proof.Laws
open Sys2Proof.Proofs.Footprint Sys2Proof.Proofs.Accounts Sys2Proof.Proofs.LedgerWriters Sys2Proof.Proofs.Takes
open Sys2Proof.Proofs.TakeStatements Sys2Proof.Proofs.ModuleEvents Sys2Proof.Proofs.ModuleMoves

/-- A state and a later one: what the modules may do, and what an outlet's session and modules keep of each other. -/
def Moves (s t : State) : Prop := PoolMoves s t ∧ (ReleaseInv s → ReleaseInv t)

theorem Moves.trans {s t u : State} (h : Moves s t) (h' : Moves t u) : Moves s u := ⟨h.1.trans h'.1, fun hs => h'.2 (h.2 hs)⟩

theorem moves_of_same {s t : State} (pool : t.pool = s.pool) (sessions : t.sessions = s.sessions) : Moves s t :=
  ⟨poolMoves_of_pool pool, releaseInv_congr pool (fun o h => by rwa [isCharging_congr sessions])
    fun o d h => by rwa [settling, slot_congr sessions] at h⟩

theorem Moves.refl (s : State) : Moves s s := moves_of_same rfl rfl

theorem moves_raiseOutlet (s : State) (k : OutletNotice) (o : Outlet) : Moves s (s.raiseOutlet k o) :=
  moves_of_same (pool_raiseOutlet s k o) (sessions_raiseOutlet s k o)

theorem moves_setMeter (s : State) (o : Outlet) (m : Meter) : Moves s (s.setMeter o m) :=
  moves_of_same (pool_setMeter s o m) (sessions_setMeter s o m)

theorem moves_setLink (s : State) (o : Outlet) (l : OutletLink) : Moves s (s.setLink o l) :=
  moves_of_same (pool_setLink s o l) (sessions_setLink s o l)

theorem moves_setExchange (s : State) (o : Outlet) (x : Exchange) : Moves s (s.setExchange o x) :=
  moves_of_same (pool_setExchange s o x) (sessions_setExchange s o x)

/-! ### Slots -/

theorem moves_of_slots {s t : State} {o : Outlet} (pool : t.pool = s.pool) (others : ∀ p, p ≠ o → t.slot p = s.slot p)
    (charging : s.isCharging o = true → t.isCharging o = true) (settles : ∀ d, settling t o = some d → settling s o = some d) :
    Moves s t := by
  refine ⟨poolMoves_of_pool pool, releaseInv_congr pool (fun p h => ?_) fun p d h => ?_⟩
  · by_cases e : p = o
    · subst e; exact charging h
    · rwa [State.isCharging, others p e]
  · by_cases e : p = o
    · subst e; exact settles d h
    · rwa [settling, others p e] at h

theorem moves_setSlot {s : State} {o : Outlet} {ses v : Session} (h : s.slot o = some ses)
    (charging : ses.state = .charging → v.state = .charging)
    (settles : ∀ d, stoppingOf v.state = some d → stoppingOf ses.state = some d) : Moves s (s.setSlot o (some v)) := by
  have now : (s.setSlot o (some v)).slot o = some v := by rw [slot_setSlot, if_pos rfl]
  refine moves_of_slots (pool_setSlot s o _) (fun p ne => slot_setSlot_other _ ne) (fun c => ?_) fun d hd => ?_
  · rw [isCharging_some h, beq_iff_eq] at c
    rw [isCharging_some now, charging c, beq_self_eq_true]
  · rw [settling_some now] at hd
    rw [settling_some h]
    exact settles d hd

theorem moves_setSlot_same {s : State} {o : Outlet} {ses v : Session} (h : s.slot o = some ses) (e : v.state = ses.state) :
    Moves s (s.setSlot o (some v)) := moves_setSlot h (fun c => e.trans c) fun d hd => by rwa [e] at hd

theorem moves_vacated {s t : State} {o : Outlet} (pool : t.pool = s.pool) (others : ∀ p, p ≠ o → t.slot p = s.slot p)
    (idle : s.isCharging o = false) (vacant : t.slot o = none) : Moves s t :=
  moves_of_slots pool others (fun h => by rw [idle] at h; cases h) fun d hd => by rw [settling, vacant] at hd; cases hd

/-! ### Releases, R47 and R57 -/

theorem serving_afterRelease (s : State) (st : ModuleState) : servingOutlet (afterRelease s st) = none := by cases st <;> rfl

theorem releaseInv_released {s t : State} {o : Outlet} (released : Released s t o) (others : ∀ p, p ≠ o → t.slot p = s.slot p)
    (settles : ∀ d, settling t o = some d → (d.isSome = true ↔ s.outletHolds o = false)) (h : ReleaseInv s) : ReleaseInv t := by
  refine releaseInv_of (fun m p hp => .inr ?_) (fun p d hd => ?_) h
  · rw [released.1 m] at hp
    split at hp
    · rw [serving_afterRelease] at hp
      cases hp
    next other =>
      have ne : p ≠ o := fun e => other (e ▸ assigned_of_serving hp)
      exact ⟨hp, fun c => by rwa [State.isCharging, others p ne]⟩
  · by_cases e : p = o
    · subst e
      rw [outletHolds_of_released released]
      exact .inr (settles d hd)
    · rw [settling, others p e] at hd
      exact .inl ⟨hd, outletHolds_of_released released p⟩

theorem moves_setAndRelease {s : State} {o : Outlet} {v : Session} (going : stoppingOf v.state = none) :
    Moves s (s.setAndRelease o v) := by
  have now : (s.setAndRelease o v).slot o = some v := by rw [slot_setAndRelease, if_pos rfl]
  refine ⟨poolMoves_setAndRelease s o v, releaseInv_released (released_setAndRelease s o v) (fun p ne => ?_) fun d hd => ?_⟩
  · rw [slot_setAndRelease, if_neg (Ne.symm ne)]
  · rw [settling_some now, going] at hd
    cases hd

theorem moves_enterStopping (s : State) (o : Outlet) (reason : EndReason) : Moves s (s.enterStopping o reason) := by
  cases h : s.slot o with
  | none =>
    unfold State.enterStopping
    rw [h]
    exact .refl s
  | some ses =>
    obtain ⟨released, now, others, _⟩ := enterStopping_some reason h
    refine ⟨poolMoves_enterStopping s o reason, releaseInv_released released others fun d hd => ?_⟩
    rw [settling_some now] at hd
    cases hd
    cases s.outletHolds o <;> simp

theorem moves_sendFundsLow (s : State) (o : Outlet) : Moves s (s.sendFundsLow o) := by
  unfold State.sendFundsLow
  split
  · exact .refl s
  next ses h => exact (moves_setSlot_same (v := { ses with fundsLowSent := true }) h rfl).trans (moves_raiseOutlet _ _ _)

theorem moves_evaluateFunds (s : State) (o : Outlet) : Moves s (s.evaluateFunds o) := by
  have stopped (stops : Bool) : Moves s (if stops then s.enterStopping o .funds else s) := by
    split
    · exact moves_enterStopping s o .funds
    · exact .refl s
  unfold State.evaluateFunds
  split
  · exact .refl s
  · split
    · simp only
      split
      · exact (stopped _).trans (moves_sendFundsLow _ o)
      · exact stopped _
    · exact .refl s

theorem moves_evaluateTopup (s : State) (o : Outlet) : Moves s (s.evaluateTopup o) := by
  unfold State.evaluateTopup
  split
  · exact .refl s
  · split
    · simp only
      split
      · exact moves_evaluateFunds s o
      next after h => exact (moves_evaluateFunds s o).trans (moves_setSlot_same (v := { after with fundsLowSent := false }) h rfl)
    · exact moves_evaluateFunds s o

theorem moves_foldl {α : Type} {f : State → α → State} (h : ∀ s a, Moves s (f s a)) (l : List α) : ∀ s, Moves s (l.foldl f s) := by
  induction l with
  | nil => exact .refl
  | cons a rest ih => exact fun s => (h s a).trans (ih _)

theorem moves_fundsStage (s : State) : Moves s s.fundsStage := by
  unfold State.fundsStage
  exact moves_foldl moves_evaluateFunds _ s

/-! ### The takes, R43 to R51 -/

theorem moves_suspend (s : State) (o : Outlet) (ses : Session) (f : Resumable) : Moves s (s.suspend o ses f) := by
  unfold State.suspend
  exact (moves_setAndRelease rfl).trans (moves_raiseOutlet _ _ _)

theorem moves_linkLost (s : State) (o : Outlet) : Moves s (s.linkLost o) := by
  unfold State.linkLost
  split
  · exact .refl s
  · split
    · exact moves_suspend s o _ _
    · exact moves_suspend s o _ _
    all_goals exact .refl s

theorem moves_resume (s : State) (o : Outlet) : Moves s (s.resume o) := by
  unfold State.resume
  split
  · exact .refl s
  next ses h =>
    split
    · exact moves_setSlot h (fun _ => rfl) nofun
    · exact moves_setAndRelease rfl
    · exact .refl s

theorem moves_firstEntry (s : State) (o : Outlet) (ses : Session) (r : Report) : Moves s (s.firstEntry o ses r) := by
  have now := slot_firstEntry s o o ses r
  rw [if_pos rfl] at now
  refine moves_of_slots (o := o) (pool_firstEntry s o ses r) (fun p ne => ?_) (fun _ => ?_) fun d hd => ?_
  · rw [slot_firstEntry, if_neg (Ne.symm ne)]
  · rw [isCharging_some now, beq_self_eq_true]
  · rw [settling_some now] at hd
    cases hd

theorem moves_applyReport (s : State) (o : Outlet) (r : Report) : Moves s (s.applyReport o r) := by
  unfold State.applyReport
  split
  · exact .refl s
  next ses h =>
    split
    · exact moves_enterStopping s o _
    · unfold State.applyPedestal
      split
      · exact moves_firstEntry s o ses r
      · exact moves_firstEntry s o ses r
      · exact moves_enterStopping s o _
      · exact moves_enterStopping s o _
      · exact moves_setAndRelease rfl
      · exact moves_enterStopping s o _
      · exact moves_enterStopping s o _
      · exact moves_setSlot h (fun _ => rfl) nofun
      · exact moves_setSlot h (fun _ => rfl) nofun
      · exact moves_enterStopping s o _
      · exact .refl s

theorem state_readMeter (ses : Session) (r : Report) : (ses.readMeter r).state = ses.state := by
  unfold Session.readMeter
  split <;> rfl

theorem moves_recordMeter (s : State) (o : Outlet) (r : Report) : Moves s (s.recordMeter o r) := by
  unfold State.recordMeter
  split
  · exact .refl s
  next ses h => exact moves_setSlot_same h (state_readMeter ses r)

theorem moves_overdrawCheck (s : State) (o : Outlet) (measured : Nat) : Moves s (s.overdrawCheck o measured) := by
  unfold State.overdrawCheck
  split
  · simp only
    split
    · exact ((moves_setMeter s o _).trans (moves_enterStopping _ o .overdraw)).trans (moves_raiseOutlet _ _ _)
    · exact moves_setMeter s o _
  · exact moves_setMeter s o _

theorem moves_sessionFresh (s : State) (o : Outlet) (r : Report) : Moves s (s.sessionFresh o r) := by
  have recorded : Moves s (((s.resume o).applyReport o r).recordMeter o r) :=
    ((moves_resume s o).trans (moves_applyReport _ o r)).trans (moves_recordMeter _ o r)
  rw [sessionFresh_eq]
  split
  · exact recorded.trans (moves_overdrawCheck _ o _)
  · exact recorded

theorem moves_take (s : State) (o : Outlet) : Moves s (s.take o) := by
  unfold State.take
  split
  · split
    · rw [freshTake_eq]
      exact ((moves_setExchange s o _).trans (moves_setLink _ o _)).trans (moves_sessionFresh _ o _)
    · rw [staleTake_eq]
      have missed : Moves s (afterMiss s o) := by
        unfold afterMiss
        exact (moves_setExchange s o _).trans (moves_setLink _ o _)
      split
      · exact (missed.trans (moves_raiseOutlet _ _ _)).trans (moves_linkLost _ o)
      · exact missed
  · exact .refl s

theorem moves_takes (s : State) : Moves s s.takes := by
  unfold State.takes
  exact moves_foldl moves_take _ s

/-! ### Modules, R136 to R150 -/

theorem moves_setModule {s : State} {m : ModuleNo} {v : Module} (h : ModuleStep (s.module m) v)
    (same : v.state.assigned = (s.module m).state.assigned) : Moves s (s.setModule m v) :=
  ⟨poolMoves_setModule h, releaseInv_setModule same h.2.2.1⟩

theorem moves_moved {s : State} {m : ModuleNo} {st : ModuleState} {p : Outlet} (used : (s.module m).state.assigned = some p)
    (same : st.assigned = some p) (held : ∀ o, st.heldBy = some o → (s.module m).state.heldBy = some o)
    (serving : ∀ o, servingOutlet st = some o → servingOutlet (s.module m).state = some o) : Moves s (s.setModuleState m st) :=
  moves_setModule (moduleStep_moved used same held serving) (same.trans used.symm)

theorem moves_issue (s : State) (msg : CabinetMsg) : Moves s (s.issue msg) := ⟨poolMoves_issue s msg, fun h => h⟩

theorem moves_openModule {s : State} {m : ModuleNo} {o : Outlet} (used : (s.module m).state.assigned = some o) :
    Moves s (s.openModule m o) :=
  (moves_issue s _).trans (moves_moved (s := s.issue (.unroute m)) used rfl nofun nofun)

theorem moves_drainModule {s : State} {m : ModuleNo} {o : Outlet} (used : (s.module m).state.assigned = some o) :
    Moves s (s.drainModule m o) := moves_moved used rfl nofun nofun

theorem moves_releaseModule (s : State) (m : ModuleNo) : Moves s (s.releaseModule m) := by
  unfold State.releaseModule
  cases st : (s.module m).state with
  | switching o d opens => exact moves_moved (by rw [st]; rfl) rfl (fun p h => by rw [st]; exact h) nofun
  | warming o d => exact moves_openModule (by rw [st]; rfl)
  | active o => exact moves_drainModule (by rw [st]; rfl)
  | _ => exact .refl s

theorem moves_unassign {s : State} {m : ModuleNo} {st : ModuleState} (left : st.assigned = none)
    (h : ModuleStep (s.module m) { s.module m with state := st }) : Moves s (s.unassign m st) :=
  ⟨poolMoves_unassign h, releaseInv_unassign left⟩

theorem cabinetInv_faultModule (s : State) (m : ModuleNo) (reason : FaultReason) (h : CabinetInv s) :
    CabinetInv (s.faultModule m reason) := by
  have unassigned (t : State) : (t.unassign m (.faulted reason)).pool.cabinet = t.pool.cabinet := by
    unfold State.unassign
    split <;> simp
  have issued : CabinetInv (if (s.module m).state.assigned.isSome then s.issue (.unroute m) else s) := by
    split
    · exact cabinetInv_issue _ h
    · exact h
  exact cabinetInv_congr (unassigned _) issued

theorem releaseInv_faultModule (s : State) (m : ModuleNo) (reason : FaultReason) (h : ReleaseInv s) :
    ReleaseInv (s.faultModule m reason) := by
  have issued : ReleaseInv (if (s.module m).state.assigned.isSome then s.issue (.unroute m) else s) := by
    split <;> exact h
  exact releaseInv_unassign (m := m) (st := .faulted reason) rfl issued

theorem moves_faultModule {s : State} {m : ModuleNo} {o : Outlet} (used : (s.module m).state.assigned = some o) (reason : FaultReason) :
    Moves s (s.faultModule m reason) := by
  refine ⟨⟨fun k => ?_, cabinetInv_faultModule s m reason⟩, releaseInv_faultModule s m reason⟩
  rw [module_faultModule]
  split
  next e => rw [e]; exact moduleStep_faulted used reason
  next => exact .refl _

theorem moves_faultOn (s : State) (m : ModuleNo) : Moves s (s.faultOn m) := by
  have indicated (h : ReleaseInv s) : ReleaseInv (s.setIndication m .faultOn) := releaseInv_setModule rfl (fun _ h => h) h
  unfold State.faultOn
  simp only
  split
  next out =>
    refine ⟨poolMoves_setModule (moduleStep_left (by rw [out]; rfl) fun ok => ?_), indicated⟩
    refine (moduleOk_unassigned (by rw [out]; rfl)).2 ⟨fun leaving => ?_, fun _ => .inl out⟩
    exact ((moduleOk_unassigned (by rw [out]; rfl)).1 ok).1 leaving
  next =>
    refine ⟨⟨fun k => ?_, fun h => cabinetInv_faultModule _ m _ h⟩, fun h => releaseInv_faultModule _ m _ (indicated h)⟩
    rw [module_faultModule, State.setIndication, module_setModule, module_setModule, if_pos rfl]
    split
    next e => rw [e]; exact moduleStep_faultOn _
    next ne => rw [if_neg (Ne.symm ne)]; exact .refl _

theorem moves_faultOff (s : State) (m : ModuleNo) : Moves s (s.setIndication m .faultOff) :=
  moves_setModule ⟨fun _ h => h, fun _ h => h, fun _ h => h, fun ⟨reach, leaving, _⟩ => ⟨reach, leaving, nofun⟩⟩ rfl

theorem moves_leaving {s : State} {m : ModuleNo} {b : Bool} (h : b = true → (s.module m).state.assigned.isSome = true) :
    Moves s (s.setModule m { s.module m with leaving := b }) :=
  moves_setModule ⟨fun _ h => h, fun _ h => h, fun _ h => h, fun ⟨reach, _, faulty⟩ => ⟨reach, fun on => .inl (h on), faulty⟩⟩ rfl

/-- A module in no use takes another state without an assignment. -/
theorem moves_idle {s : State} {m : ModuleNo} {v : Module} (idle : (s.module m).state.assigned = none) (left : v.state.assigned = none)
    (ok : ModuleOk (s.module m) → ModuleOk v) : Moves s (s.setModule m v) :=
  moves_setModule (moduleStep_left left ok) (left.trans idle.symm)

theorem moves_opened {s : State} {m : ModuleNo} {o : Outlet} (used : (s.module m).state.assigned = some o) : Moves s (s.opened m) := by
  unfold State.opened
  split
  next =>
    refine (moves_leaving (b := false) nofun).trans (moves_unassign rfl (moduleStep_left rfl fun _ => ?_))
    rw [module_setModule, if_pos rfl]
    exact (moduleOk_unassigned rfl).2 ⟨nofun, fun _ => .inl rfl⟩
  next stays =>
    refine moves_unassign rfl (moduleStep_left rfl fun ok => (moduleOk_unassigned rfl).2 ⟨fun leaving => absurd leaving stays, fun on => ?_⟩)
    exact absurd on (indication_of_assigned (a := s.module m) ok used)

theorem moves_cabinet {s : State} {c : CabinetLink} (waiting : c.waiting = s.pool.cabinet.waiting)
    (sending : c.sending = s.pool.cabinet.sending) : Moves s (s.setCabinet c) := by
  refine ⟨⟨fun _ => .refl _, fun h => ?_⟩, fun h => h⟩
  rw [CabinetInv, cabinet_setCabinet, waiting, sending]
  exact h

theorem moves_confirm (s : State) (m : ModuleNo) (route : Option Outlet) : Moves s (s.confirm m route) := by
  have unexpected : Moves s s.unexpectedConfirm := moves_cabinet rfl rfl
  unfold State.confirm
  cases st : (s.module m).state with
  | switching o d opens =>
    have used : (s.module m).state.assigned = some o := by rw [st]; rfl
    simp only
    split
    · unfold State.routeConfirmed
      cases opens with
      | true => exact moves_openModule used
      | false =>
        rw [if_neg Bool.false_ne_true]
        split
        · exact moves_moved used rfl (fun p h => by rw [st]; exact h) fun p h => by rw [st]; exact h
        · exact moves_moved used rfl (fun p h => by rw [st]; exact h) fun p h => by rw [st]; exact h
    · exact moves_faultModule used _
  | opening o d =>
    simp only
    split
    · exact moves_opened (by rw [st]; rfl)
    · exact unexpected
  | _ => exact unexpected

theorem moves_switchTimeout (s : State) (m : ModuleNo) : Moves s (s.switchTimeout m) := by
  unfold State.switchTimeout
  split
  next st =>
    split
    · exact moves_faultModule (by rw [st]; rfl) _
    · exact .refl s
  · exact .refl s

theorem moves_openingTimeout (s : State) (m : ModuleNo) : Moves s (s.openingTimeout m) := by
  unfold State.openingTimeout
  split
  next st =>
    split
    · exact moves_faultModule (by rw [st]; rfl) _
    · exact .refl s
  · exact .refl s

theorem moves_warmUpDeadline (s : State) (m : ModuleNo) : Moves s (s.warmUpDeadline m) := by
  unfold State.warmUpDeadline
  split
  next o d st =>
    split
    · exact moves_moved (p := o) (by rw [st]; rfl) rfl (fun p h => by rw [st]; exact h) fun p h => by rw [st]; exact h
    · exact .refl s
  · exact .refl s

theorem moves_drainDeadline (s : State) (m : ModuleNo) : Moves s (s.drainDeadline m) := by
  unfold State.drainDeadline
  split
  next st =>
    split
    · exact moves_openModule (by rw [st]; rfl)
    · exact .refl s
  · exact .refl s

theorem moves_serviceOut (s : State) (m : ModuleNo) : Moves s (s.serviceOut m).state := by
  have assigned (used : (s.module m).state.assigned.isSome = true) : Moves s (s.serviceOut m).state := by
    rw [serviceOut_assigned used]
    split
    · exact .refl s
    · exact (moves_leaving fun _ => used).trans (moves_releaseModule _ m)
  cases st : (s.module m).state with
  | outOfService =>
    unfold State.serviceOut
    rw [st]
    exact .refl s
  | free =>
    unfold State.serviceOut
    rw [st]
    refine moves_idle (by rw [st]; rfl) rfl fun ok => (moduleOk_unassigned rfl).2 ⟨fun leaving => ?_, fun _ => .inl rfl⟩
    obtain ⟨r, faulted⟩ := ((moduleOk_unassigned (by rw [st]; rfl)).1 ok).1 leaving
    rw [st] at faulted
    cases faulted
  | faulted r =>
    unfold State.serviceOut
    rw [st]
    exact moves_idle (by rw [st]; rfl) rfl (moduleStep_retired _).2.2.2
  | _ => exact assigned (by rw [st]; rfl)

theorem moves_serviceIn (s : State) (m : ModuleNo) : Moves s (s.serviceIn m).state := by
  by_cases out : (s.module m).state = .outOfService
  · have none' (b : Prop) [Decidable b] : (if b then ModuleState.faulted .cabinetFault else .free).assigned = none := by
      split <;> rfl
    unfold State.serviceIn
    rw [out]
    refine moves_idle (by rw [out]; rfl) (none' _) fun ok => (moduleOk_unassigned (none' _)).2 ⟨fun leaving => ?_, fun on => ?_⟩
    · obtain ⟨r, faulted⟩ := ((moduleOk_unassigned (by rw [out]; rfl)).1 ok).1 leaving
      rw [out] at faulted
      cases faulted
    · exact .inr (if_pos on)
  · rw [serviceIn_used out]
    split
    · exact moves_leaving nofun
    · exact .refl s

theorem moves_answerService (s : State) (module direction : Byte) : Moves s (s.answerService module direction).state := by
  unfold State.answerService
  split
  · exact .refl s
  · split
    · exact moves_serviceOut s _
    · split
      · exact moves_serviceIn s _
      · exact .refl s

theorem moves_answerClear (s : State) (module : Byte) : Moves s (s.answerClear module).state := by
  unfold State.answerClear
  split
  · exact .refl s
  next m _ =>
    cases st : (s.module m).state with
    | faulted reason =>
      simp only
      split
      · exact .refl s
      next off =>
        split
        · exact moves_idle (by rw [st]; rfl) rfl (moduleStep_retired _).2.2.2
        next stays =>
          exact moves_idle (by rw [st]; rfl) rfl fun _ =>
            (moduleOk_unassigned rfl).2 ⟨fun leaving => absurd leaving stays, fun on => absurd on off⟩
    | _ => exact .refl s

end Sys2Proof.Proofs.CommandMoves
end

section
/-! Every command within the relation of ModuleMoves, and what a cycle expiry adds to it: its module requests (R129, R137), each for an outlet
in CHARGING and within its module limit. -/

namespace Sys2Proof.Proofs.EffectMoves

open Sys2Proof.Machine Sys2Proof.Safety Sys2Proof.Laws
open Sys2Proof.Proofs.Footprint Sys2Proof.Proofs.Accounts Sys2Proof.Proofs.LedgerWriters Sys2Proof.Proofs.Takes
open Sys2Proof.Proofs.ModuleMoves Sys2Proof.Proofs.CommandMoves Sys2Proof.Proofs.ParkMoves Sys2Proof.Proofs.Rooms

/-! ### Requests and events -/

theorem moves_answerArm (s : State) (outlet : Byte) (hold : Nat) (plan cls : Byte) (ref : Vector Byte 12) :
    Moves s (s.answerArm outlet hold plan cls ref).state := by
  rcases answerArm_cases s outlet hold plan cls ref with e | ⟨o, n, _, _, vacant, _, e⟩ <;> rw [e]
  · exact .refl s
  generalize hv : s.newSession hold n.val cls.toNat (s.plan n) ref = v
  have armed : stoppingOf v.state = none := by rw [← hv]; rfl
  have slots (p : Outlet) : (s.createSession o v).slot p = if o = p then some v else s.slot p := slot_setSlot s o p _
  have now := slots o
  rw [if_pos rfl] at now
  refine moves_of_slots (o := o) (pool_setSlot s o (some v)) (fun p ne => ?_) (fun c => ?_) fun d hd => ?_
  · rw [slots, if_neg (Ne.symm ne)]
  · rw [State.isCharging, vacant] at c
    cases c
  · rw [settling_some now, armed] at hd
    cases hd

theorem moves_answerTopup (s : State) (number amount : Nat) : Moves s (s.answerTopup number amount).state := by
  rcases answerTopup_cases s number amount with e | ⟨o, ses, h, _, _, e⟩ <;> rw [e]
  · exact .refl s
  · exact (moves_setSlot_same (v := { ses with hold := ses.hold + amount }) h rfl).trans (moves_evaluateTopup _ o)

theorem moves_answerStop (s : State) (number : Nat) : Moves s (s.answerStop number).state := by
  unfold State.answerStop
  split
  · exact .refl s
  · split
    · exact .refl s
    · split
      · exact moves_enterStopping s _ _
      · exact .refl s

theorem moves_answerRelease (s : State) (number : Nat) : Moves s (s.answerRelease number).state := by
  rcases answerRelease_cases s number with e | ⟨r, rest, _, e⟩ <;> rw [e]
  · exact .refl s
  rcases admitWaiter_cases ({ s with closures := rest } : State) with ⟨_, e⟩ | ⟨o, ses, q, n, h, st, e⟩ <;> rw [e]
  · exact moves_of_same rfl rfl
  have h : s.slot o = some ses := h
  have slots (p : Outlet) := slot_setSlot (({ s with closures := rest ++ [q] } : State).raise .closureReady) o p none
  refine moves_vacated (o := o) (pool_setSlot _ o none) (fun p ne => (slots p).trans (if_neg (Ne.symm ne))) ?_ ((slots o).trans (if_pos rfl))
  rw [isCharging_some h, st]
  rfl

theorem moves_settleDeadline (s : State) (o : Outlet) : Moves s (s.settleDeadline o) := by
  rcases settleDeadline_cases s o with e | ⟨ses, reason, time, d, h, st, e⟩ <;> rw [e]
  · exact .refl s
  unfold State.offer
  split
  · have slots (p : Outlet) := slot_setSlot (({ s with
        closures := s.closures ++ [ses.close o reason time s.clock.parkTime] } : State).raise .closureReady) o p none
    refine moves_vacated (o := o) (pool_setSlot _ o none) (fun p ne => (slots p).trans (if_neg (Ne.symm ne))) ?_
      ((slots o).trans (if_pos rfl))
    rw [isCharging_some h, st]
    rfl
  · exact moves_setSlot h (fun c => by rw [st] at c; cases c) nofun

theorem moves_takePulse (s : State) (o : Outlet) : Moves s (s.takePulse o) := by
  rcases takePulse_cases s o with e | ⟨stamp, e⟩ <;> rw [e]
  · exact .refl s
  generalize (s.outletItems o).pulseWeight = w
  have metered := moves_setMeter s o { s.meter o with filter := .lowTaken, pulses := satAdd (s.meter o).pulses 1 }
  generalize s.setMeter o { s.meter o with filter := .lowTaken, pulses := satAdd (s.meter o).pulses 1 } = t at metered ⊢
  refine metered.trans ?_
  rcases attributePulse_cases t o w stamp with e | ⟨ses, h, _, _, e⟩ <;> rw [e]
  · exact moves_of_same (by simp) (by simp)
  · exact (moves_setSlot_same (v := ses.bill w stamp) h rfl).trans (moves_evaluateFunds _ o)

theorem moves_armDeadline (s : State) (o : Outlet) : Moves s (s.armDeadline o) := by
  unfold State.armDeadline
  split
  · split
    · exact moves_enterStopping s o _
    · exact .refl s
  · exact .refl s

theorem moves_suspendDeadline (s : State) (o : Outlet) : Moves s (s.suspendDeadline o) := by
  unfold State.suspendDeadline
  split
  · split
    · exact moves_enterStopping s o _
    · exact .refl s
  · exact .refl s

theorem state_accrue (ses : Session) : ses.accrue.1.state = ses.state := by
  unfold Session.accrue
  simp only
  split <;> rfl

theorem moves_idleAccrual (s : State) (o : Outlet) : Moves s (s.idleAccrual o) := by
  unfold State.idleAccrual
  split
  · exact .refl s
  next ses h =>
    split
    · have accrued := moves_setSlot_same h (state_accrue ses)
      simp only
      split
      · exact accrued.trans (moves_evaluateFunds _ o)
      · exact accrued
    · exact .refl s

/-- Slots whose states stay as they were. -/
theorem moves_of_states {s t : State} (pool : t.pool = s.pool) (states : ∀ p, (t.slot p).map (·.state) = (s.slot p).map (·.state)) :
    Moves s t := by
  have charging (p : Outlet) : t.isCharging p = s.isCharging p := by
    have e (u : State) : u.isCharging p = ((u.slot p).map (·.state)).any (· == .charging) := by
      rw [State.isCharging, Option.any_map]
    rw [e, e, states]
  have settles (p : Outlet) : settling t p = settling s p := by
    have e (u : State) : settling u p = ((u.slot p).map (·.state)).bind stoppingOf := by
      rw [settling, Option.bind_map]
      rfl
    rw [e, e, states]
  exact ⟨poolMoves_of_pool pool, releaseInv_congr pool (fun p h => (charging p).trans h) fun p d h => by rwa [settles] at h⟩

theorem moves_flagLive (s : State) (f : ClockFlag) : Moves s (s.flagLive f) := by
  refine moves_of_states rfl fun p => ?_
  rw [slot_flagLive]
  cases s.slot p with
  | none => rfl
  | some ses => cases f <;> simp [Session.setFlag] <;> split <;> rfl

theorem moves_answerTimeRef (s : State) (ref : Nat) : Moves s (s.answerTimeRef ref).state := by
  have clocked (c : Clock) : Moves s { s with clock := c } := moves_of_same rfl rfl
  have flagged (c : Clock) (k : RefOutcome) : Moves s (({ s with clock := c } : State).referenceFlags k) := by
    refine (clocked c).trans ?_
    cases k with
    | stepped => exact (moves_flagLive _ _).trans (moves_of_same rfl rfl)
    | slewing => exact moves_flagLive _ _
    | _ => exact .refl _
  exact flagged _ _

theorem moves_enterHoldover (s : State) : Moves s s.enterHoldover := by
  have clocked (c : Clock) : Moves s { s with clock := c } := moves_of_same rfl rfl
  exact ((clocked _).trans (moves_flagLive _ _)).trans (moves_of_same rfl rfl)

theorem moves_millisecond (s : State) : Moves s s.millisecond := by
  refine moves_of_states rfl fun p => ?_
  rw [slot_millisecond, Option.map_map]
  congr 1
  funext ses
  simp only [Function.comp_apply, Session.tick]
  split <;> rfl

theorem moves_of_modules {s t : State} (modules : ∀ m, t.module m = s.module m) (cabinet : CabinetInv s → CabinetInv t)
    (sessions : t.sessions = s.sessions) : Moves s t := by
  refine ⟨⟨fun m => by rw [modules]; exact .refl _, cabinet⟩, releaseInv_of (fun m o h => .inr ⟨?_, fun c => ?_⟩) fun o d h => .inl ⟨?_, ?_⟩⟩
  · rwa [modules] at h
  · rwa [isCharging_congr sessions]
  · rwa [settling, slot_congr sessions] at h
  · exact outletHolds_of_assigned (fun m => by rw [modules]) o

theorem moves_answerCounters (s : State) (clear part : Nat) : Moves s (s.answerCounters clear part).state := by
  have modules (m : ModuleNo) : s.takeSnapshot.clearCounters.module m = s.module m := by
    simp only [State.module, State.clearCounters, State.takeSnapshot, ModulePool.cleared]
  have cabinet (h : CabinetInv s) : CabinetInv s.takeSnapshot.clearCounters := by
    unfold CabinetInv at h ⊢
    simpa only [State.clearCounters, State.takeSnapshot, ModulePool.cleared] using h
  have cleared : Moves s s.takeSnapshot.clearCounters :=
    moves_of_modules modules cabinet (by simp only [State.clearCounters, State.takeSnapshot])
  have taken : Moves s s.takeSnapshot := moves_of_same rfl rfl
  unfold State.answerCounters
  split
  · exact .refl s
  · split
    · split
      · exact cleared
      · exact taken
    · exact .refl s

theorem moves_cabinetSent (s : State) : Moves s s.cabinetSent :=
  ⟨⟨fun _ => .refl _, fun h => cabinetInv_pump (c := { s.pool.cabinet with sending := none }) h.1⟩, fun h => h⟩

theorem moves_messageDone (s : State) : Moves s s.cabinetMessageDone := moves_cabinet rfl rfl

theorem moves_ite {s t : State} (h : Moves s t) (b : Bool) : Moves s (if b then t else s) := by
  split
  · exact h
  · exact .refl s

def startsModules : Instr → Bool
  | .startPark | .cycleExpiry _ => true
  | _ => false

/-- A request within the relation when its owner is. -/
theorem moves_request {c : Instr} {p : PortId} {code : Byte} {owner : State → Answer} (h : requestParts c = some (p, code, owner))
    {s : State} (ho : Moves s (owner s).state) : Moves s (effect c s) :=
  keeps_request (I := Moves s) (fun _ _ ht => ht.trans (moves_of_same rfl rfl)) h (.refl s) ho

theorem moves_effect {c : Instr} (s : State) (h : startsModules c = false) : Moves s (effect c s) := by
  by_cases hc : writesPool c = false ∧ writesSessions c = false
  · exact moves_of_same (pool_effect s hc.1) (sessions_effect s hc.2)
  cases c with
  | arm outlet hold plan cls ref => exact moves_request (c := .arm outlet hold plan cls ref) rfl (moves_answerArm s _ _ _ _ _)
  | topup number amount => exact moves_request (c := .topup number amount) rfl (moves_answerTopup s _ _)
  | stop number => exact moves_request (c := .stop number) rfl (moves_answerStop s _)
  | releaseClosure number => exact moves_request (c := .releaseClosure number) rfl (moves_answerRelease s _)
  | timeRef ref => exact moves_request (c := .timeRef ref) rfl (moves_answerTimeRef s _)
  | moduleServiceOut module direction =>
    exact moves_request (c := .moduleServiceOut module direction) rfl (moves_answerService s _ _)
  | moduleServiceIn module => exact moves_request (c := .moduleServiceIn module) rfl (moves_answerService s _ _)
  | moduleClear module => exact moves_request (c := .moduleClear module) rfl (moves_answerClear s _)
  | readCounters clear part => exact moves_request (c := .readCounters clear part) rfl (moves_answerCounters s _ _)
  | readCountersClear part => exact moves_request (c := .readCountersClear part) rfl (moves_answerCounters s _ _)
  | confirm m route => exact (moves_messageDone s).trans (moves_confirm _ m route)
  | faultOn m => exact (moves_messageDone s).trans (moves_faultOn _ m)
  | faultOff m => exact (moves_messageDone s).trans (moves_faultOff _ m)
  | cabinetFrameError frame => exact moves_ite (t := s.cabinetFrameError) (moves_cabinet rfl rfl) _
  | unusableMessage frame => exact moves_ite (t := s.unusableMessage) (moves_cabinet rfl rfl) _
  | cabinetGapTimeout received => exact moves_ite (t := s.cabinetFrameError) (moves_cabinet rfl rfl) _
  | cabinetMessageSent => exact moves_ite (moves_cabinetSent s) _
  | pulseTaken o => exact moves_takePulse s o
  | armDeadline o => exact moves_armDeadline s o
  | suspendDeadline o => exact moves_suspendDeadline s o
  | settleDeadline o => exact moves_settleDeadline s o
  | idleMinuteAccrual o => exact moves_idleAccrual s o
  | elapsedMillisecond => exact moves_millisecond s
  | trimAdjustment => exact moves_ite (moves_millisecond s) _
  | holdoverDeadline => exact moves_ite (moves_enterHoldover s) _
  | switchTimeout m => exact moves_switchTimeout s m
  | warmUpDeadline m => exact moves_warmUpDeadline s m
  | drainDeadline m => exact moves_drainDeadline s m
  | openingTimeout m => exact moves_openingTimeout s m
  | startPark => cases h
  | cycleExpiry quiet => cases h
  | _ => exact absurd ⟨rfl, rfl⟩ hc

/-! ### Module requests, R129 and R137 -/

theorem requestModule_cases (s : State) (o : Outlet) :
    (∃ m, (s.module m).state = .free ∧ OutletSet.has (s.module m).reach o = true ∧ s.requestModule o =
      (s.setModuleState m (.switching o (s.clock.elapsed + s.control.park.switchTimeout) false)).issue (.route m o)) ∨
      ((∀ m, (s.requestModule o).module m = s.module m) ∧ (s.requestModule o).pool.cabinet = s.pool.cabinet) := by
  unfold State.requestModule State.selectModule
  split
  next m h =>
    have free := List.find?_some h
    rw [Bool.and_eq_true, beq_iff_eq] at free
    exact .inl ⟨m, free.1, free.2, rfl⟩
  next => exact .inr ⟨fun _ => rfl, rfl⟩

/-- What up to `n` requests for an outlet may do. -/
def Requested (n : Nat) (s t : State) (o : Outlet) : Prop :=
  ((∀ m, ModuleOk (s.module m)) → ∀ m, ModuleOk (t.module m)) ∧ (CabinetInv s → CabinetInv t) ∧
    t.holding o ≤ s.holding o + n ∧ (∀ p, p ≠ o → t.holding p ≤ s.holding p) ∧
    (s.isCharging o = true → ReleaseInv s → ReleaseInv t)

theorem countP_le_succ {α : Type} {p q : α → Bool} {a : α} (other : ∀ x, x ≠ a → p x = true → q x = true) :
    ∀ {l : List α}, l.Nodup → l.countP p ≤ l.countP q + 1
  | [], _ => Nat.zero_le _
  | x :: rest, nodup => by
    obtain ⟨fresh, nodup'⟩ := List.nodup_cons.1 nodup
    rw [List.countP_cons, List.countP_cons]
    by_cases e : x = a
    · have same : rest.countP p ≤ rest.countP q :=
        List.countP_mono_left fun y hy => other y fun h => fresh ((h.trans e.symm) ▸ hy)
      split <;> split <;> omega
    · have ih := countP_le_succ other nodup'
      have head := other x e
      by_cases hx : p x = true
      · rw [if_pos hx, if_pos (head hx)]
        omega
      · rw [if_neg hx]
        omega

theorem holding_mono {s t : State} {o : Outlet} (h : ∀ m, (t.module m).state.heldBy = some o → (s.module m).state.heldBy = some o) :
    t.holding o ≤ s.holding o :=
  List.countP_mono_left fun m _ hm => by
    rw [beq_iff_eq] at hm ⊢
    exact h m hm

theorem outletHolds_other {s t : State} {p : Outlet} (h : ∀ m, (t.module m).state.assigned = some p ↔ (s.module m).state.assigned = some p) :
    t.outletHolds p = s.outletHolds p := by
  rw [Bool.eq_iff_iff, outletHolds_iff, outletHolds_iff]
  exact exists_congr h

/-- R137: a FREE module within reach begins switching to the outlet. -/
theorem requested_switching {s t : State} {o : Outlet} {m : ModuleNo} {d : Nat} (free : (s.module m).state = .free)
    (reach : OutletSet.has (s.module m).reach o = true)
    (modules : ∀ k, t.module k = if m = k then { s.module m with state := .switching o d false } else s.module k)
    (cabinet : CabinetInv s → CabinetInv t) (sessions : t.sessions = s.sessions) : Requested 1 s t o := by
  have self : t.module m = { s.module m with state := .switching o d false } := by rw [modules, if_pos rfl]
  have other (k : ModuleNo) (ne : k ≠ m) : t.module k = s.module k := by rw [modules, if_neg (Ne.symm ne)]
  refine ⟨fun ok k => ?_, cabinet, countP_le_succ (a := m) (fun k ne h => by rwa [other k ne] at h) allModules_nodup, fun p ne => ?_,
    fun charging => releaseInv_of (fun k p h => ?_) fun p e h => ?_⟩
  · by_cases e : k = m
    · obtain ⟨_, _, faulty⟩ := ok m
      rw [e, self]
      refine ⟨fun p h => ?_, fun _ => .inl rfl, fun on => ?_⟩
      · cases h; exact reach
      · rcases faulty on with st | st <;> rw [free] at st <;> cases st
    · rw [other k e]; exact ok k
  · refine holding_mono fun k h => ?_
    by_cases e : k = m
    · rw [e, self] at h
      exact absurd (Option.some.inj h).symm ne
    · rwa [other k e] at h
  · by_cases e : k = m
    · rw [e, self] at h
      rw [← Option.some.inj h, isCharging_congr sessions]
      exact .inl charging
    · rw [other k e] at h
      exact .inr ⟨h, fun c => by rwa [isCharging_congr sessions]⟩
  · rw [settling, slot_congr sessions, ← settling] at h
    refine .inl ⟨h, outletHolds_other fun k => ?_⟩
    have ne : p ≠ o := by
      rintro rfl
      obtain ⟨ses, slot, st⟩ := isCharging_iff.1 charging
      rw [settling_some slot, st] at h
      cases h
    by_cases e : k = m
    · rw [e, self, free]
      exact ⟨fun h => absurd (Option.some.inj h).symm ne, nofun⟩
    · rw [other k e]

theorem requested_none {s t : State} (o : Outlet) (h : Moves s t) : Requested 0 s t o := by
  obtain ⟨⟨steps, cabinet⟩, release⟩ := h
  exact ⟨fun ok m => (steps m).2.2.2 (ok m), cabinet, holding_mono fun m => (steps m).2.1 o,
    fun p _ => holding_mono fun m => (steps m).2.1 p, fun _ => release⟩

theorem Requested.mono {n k : Nat} {s t : State} {o : Outlet} (h : Requested n s t o) (le : n ≤ k) : Requested k s t o := by
  obtain ⟨ok, cabinet, held, others, release⟩ := h
  exact ⟨ok, cabinet, held.trans (Nat.add_le_add_left le _), others, release⟩

theorem requested_requestModule (s : State) (o : Outlet) : Requested 1 s (s.requestModule o) o := by
  rcases requestModule_cases s o with ⟨m, free, reach, e⟩ | ⟨modules, cabinet⟩
  · rw [e]
    exact requested_switching free reach (fun k => module_setModuleState s m k _)
      (fun h => cabinetInv_issue (s := s.setModuleState m _) _ h) rfl
  · exact (requested_none o (moves_of_modules modules (cabinetInv_congr cabinet) (sessions_requestModule s o))).mono (Nat.zero_le 1)

theorem requested_requestMany (o : Outlet) : ∀ (n : Nat) (s : State), Requested n s (State.requestMany o n s) o
  | 0, s => requested_none o (.refl s)
  | n + 1, s => by
    obtain ⟨ok, cabinet, held, others, release⟩ := requested_requestModule s o
    obtain ⟨ok', cabinet', held', others', release'⟩ := requested_requestMany o n (s.requestModule o)
    refine ⟨fun h => ok' (ok h), fun h => cabinet' (cabinet h), ?_, fun p ne => (others' p ne).trans (others p ne), fun c h => ?_⟩
    · show (State.requestMany o n (s.requestModule o)).holding o ≤ _
      omega
    · exact release' ((isCharging_congr (sessions_requestModule s o) o).trans c) (release c h)

/-- R129: the requests of one outlet stop at its module limit. -/
theorem holdingWithinLimit_requestFor {s : State} (c : Claim) (h : HoldingWithinLimit s) : HoldingWithinLimit (s.requestFor c) := by
  obtain ⟨_, _, held, others, _⟩ := requested_requestMany c.outlet
    (min (s.moduleTarget c.outlet - s.holding c.outlet) ((s.outletItems c.outlet).moduleLimit - s.holding c.outlet)) s
  intro o
  rw [outletItems_congr (control_requestFor s c)]
  have limit := h o
  by_cases e : o = c.outlet
  · subst e
    show (State.requestMany _ _ s).holding _ ≤ _
    omega
  · exact (others o e).trans limit

/-! ### The stages of a dispatch -/

theorem foldl_keeps_mem {α : Type} {I : State → Prop} {f : State → α → State} : ∀ {l : List α}, (∀ s, ∀ a ∈ l, I s → I (f s a)) →
    ∀ {s}, I s → I (l.foldl f s)
  | [], _, _, hs => hs
  | a :: _, h, _, hs => foldl_keeps_mem (fun s b hb => h s b (List.mem_cons_of_mem _ hb)) (h _ a List.mem_cons_self hs)

theorem moves_excessFor (s : State) (c : Claim) : Moves s (s.excessFor c) := by
  have counted (r : DispatchRecord) : Moves s (s.setRecord c.outlet r) := moves_of_same rfl rfl
  unfold State.excessFor
  simp only
  split
  · split
    next m h =>
      have active : (s.module m).state = .active c.outlet := by
        unfold State.highestActive at h
        simpa using List.find?_some h
      exact (counted _).trans (moves_drainModule (s := s.setRecord c.outlet _) (m := m) (by
        rw [module_congr (pool_setRecord s c.outlet _), active]
        rfl))
    · exact counted _
  · exact counted _

/-- R119: a dispatch keeps what every move keeps and every module request for an outlet in CHARGING. -/
theorem dispatch_keeps {I : State → Prop} (moves : ∀ {s t : State}, Moves s t → t.control = s.control → I s → I t)
    (requests : ∀ {s : State} (c : Claim), s.isCharging c.outlet = true → I s → I (s.requestFor c)) {s : State} (hs : I s) :
    I s.dispatch := by
  have granted : I s.fundsStage.capStage.ceilingStage.grantStage := by
    refine moves (s := s) ((moves_fundsStage s).trans (moves_of_same (by simp) (by simp))) (by simp) hs
  generalize hg : s.fundsStage.capStage.ceilingStage.grantStage = g at granted
  have e : s.dispatch = g.serviceOrder.foldl State.excessFor (g.serviceOrder.foldl State.requestFor g) := by
    rw [← hg]
    rfl
  have requested : (g.serviceOrder.foldl State.requestFor g).sessions = g.sessions ∧ I (g.serviceOrder.foldl State.requestFor g) := by
    refine foldl_keeps_mem (I := fun u => u.sessions = g.sessions ∧ I u) (fun u c hc ⟨same, hu⟩ => ?_) ⟨rfl, granted⟩
    refine ⟨(sessions_requestFor u c).trans same, requests c ?_ hu⟩
    rw [isCharging_congr same]
    exact (mem_serviceOrder g c.outlet).1 ⟨c, hc, rfl⟩
  rw [e]
  exact foldl_keeps (I := I) (fun u c h => moves (moves_excessFor u c) (control_excessFor u c) h) _ _ requested.2

theorem cycleExpiry_keeps {I : State → Prop} (moves : ∀ {s t : State}, Moves s t →
      (∀ o, (t.outletItems o).moduleLimit = (s.outletItems o).moduleLimit) → I s → I t)
    (requests : ∀ {s : State} (c : Claim), s.isCharging c.outlet = true → I s → I (s.requestFor c)) {s : State} (quiet : Bool)
    (hs : I s) : I (s.cycleExpiry quiet) := by
  rcases cycleExpiry_cases s quiet with e | ⟨d, _, e⟩ <;> rw [e]
  · exact hs
  have limits {s t : State} (h : t.control = s.control) (o : Outlet) : (t.outletItems o).moduleLimit = (s.outletItems o).moduleLimit := by
    rw [outletItems_congr h]
  have armed : I (s.rearm d) := moves (moves_of_same (pool_rearm s d) (sessions_rearm s d)) (fun o => rfl) hs
  have taken : I (s.rearm d).takes := moves (moves_takes _) (limits (control_takes _)) armed
  have dispatched : I (s.rearm d).takes.dispatch := dispatch_keeps (fun m c h => moves m (limits c) h) requests taken
  exact moves (moves_of_same (pool_handOver _ quiet) (sessions_handOver _ quiet)) (limits (control_handOver _ quiet)) dispatched

end Sys2Proof.Proofs.EffectMoves
end

section
/-! The mode (R2, R9 to R16): MAINTENANCE and absent outlets stay at rest, and OPERATING keeps a configuration that passes R10. -/

namespace Sys2Proof.Proofs.RestKept

open Sys2Proof.Machine Sys2Proof.Safety Sys2Proof.Laws
open Sys2Proof.Proofs.Footprint Sys2Proof.Proofs.Accounts Sys2Proof.Proofs.LedgerWriters Sys2Proof.Proofs.Takes
open Sys2Proof.Proofs.LineFrames Sys2Proof.Proofs.Openings Sys2Proof.Proofs.Dispatching
open Sys2Proof.Proofs.LineAndShare Sys2Proof.Proofs.ParkMoves Sys2Proof.Proofs.Rooms
open Sys2Proof.Proofs.ModuleMoves Sys2Proof.Proofs.CommandMoves Sys2Proof.Proofs.EffectMoves

/-- An outlet that takes no part: the park stands, or the outlet is not present. -/
def Resting (s : State) (o : Outlet) : Prop := s.control.mode = .maintenance ∨ s.present o = false

/-! ### Vacant slots -/

theorem vacant_iff (s : State) (o : Outlet) : s.slot o = none ↔ (ledger s).accounts o = none := by
  rw [accounts_ledger, Option.map_eq_none_iff]

theorem vacant_of_accounts {s t : State} {o : Outlet} (h : (ledger t).accounts o = (ledger s).accounts o) (vacant : s.slot o = none) :
    t.slot o = none := by
  rw [vacant_iff] at vacant ⊢
  exact h.trans vacant

theorem vacant_of_ledger {s t : State} (h : ledger t = ledger s) {o : Outlet} (vacant : s.slot o = none) : t.slot o = none :=
  vacant_of_accounts (by rw [h]) vacant

/-- A slot vacated or rewritten elsewhere. -/
theorem vacant_setSlot {s : State} {o p : Outlet} {ses : Session} (h : s.slot p = some ses) (v : Option Session)
    (vacant : s.slot o = none) : (s.setSlot p v).slot o = none := by
  rw [slot_setSlot_other]
  · exact vacant
  · rintro rfl
    rw [vacant] at h
    cases h

theorem vacant_answerArm {s : State} {o : Outlet} (rest : Resting s o) (vacant : s.slot o = none) (outlet : Byte) (hold : Nat)
    (plan cls : Byte) (ref : Vector Byte 12) : (s.answerArm outlet hold plan cls ref).state.slot o = none := by
  rcases answerArm_cases s outlet hold plan cls ref with e | ⟨p, n, mode, present, _, _, e⟩ <;> rw [e]
  · exact vacant
  refine vacant_of_accounts ?_ vacant
  rw [ledger_createSession, if_neg]
  rintro rfl
  rcases rest with m | absent
  · rw [mode] at m; cases m
  · rw [present] at absent; cases absent

theorem vacant_answerTopup {s : State} {o : Outlet} (vacant : s.slot o = none) (number amount : Nat) :
    (s.answerTopup number amount).state.slot o = none := by
  rcases answerTopup_cases s number amount with e | ⟨p, ses, h, _, _, e⟩ <;> rw [e]
  · exact vacant
  · exact vacant_of_ledger (ledger_evaluateTopup _ p) (vacant_setSlot h _ vacant)

theorem vacant_answerRelease {s : State} {o : Outlet} (vacant : s.slot o = none) (number : Nat) :
    (s.answerRelease number).state.slot o = none := by
  rcases answerRelease_cases s number with e | ⟨r, rest, _, e⟩ <;> rw [e]
  · exact vacant
  rcases admitWaiter_cases ({ s with closures := rest } : State) with ⟨_, e⟩ | ⟨p, ses, q, n, h, _, e⟩ <;> rw [e]
  · exact vacant
  · exact vacant_setSlot (s := ({ s with closures := rest ++ [q] } : State).raise .closureReady) h none vacant

theorem vacant_settleDeadline {s : State} {o : Outlet} (vacant : s.slot o = none) (p : Outlet) : (s.settleDeadline p).slot o = none := by
  rcases settleDeadline_cases s p with e | ⟨ses, reason, time, d, h, _, e⟩ <;> rw [e]
  · exact vacant
  unfold State.offer
  split
  · exact vacant_setSlot (s := ({ s with
      closures := s.closures ++ [ses.close p reason time s.clock.parkTime] } : State).raise .closureReady) h none vacant
  · exact vacant_setSlot h _ vacant

theorem vacant_takePulse {s : State} {o : Outlet} (vacant : s.slot o = none) (p : Outlet) : (s.takePulse p).slot o = none := by
  rcases takePulse_cases s p with e | ⟨stamp, e⟩ <;> rw [e]
  · exact vacant
  generalize (s.outletItems p).pulseWeight = w
  have metered : (s.setMeter p { s.meter p with filter := .lowTaken, pulses := satAdd (s.meter p).pulses 1 }).slot o = none := vacant
  generalize s.setMeter p { s.meter p with filter := .lowTaken, pulses := satAdd (s.meter p).pulses 1 } = t at metered ⊢
  rcases attributePulse_cases t p w stamp with e | ⟨ses, h, _, _, e⟩ <;> rw [e]
  · exact metered
  · exact vacant_of_ledger (ledger_evaluateFunds _ p) (vacant_setSlot h _ metered)

theorem vacant_effect (c : Instr) {s : State} {o : Outlet} (rest : Resting s o) (vacant : s.slot o = none) :
    (effect c s).slot o = none := by
  have request {c : Instr} {p : PortId} {code : Byte} {owner : State → Answer} (h : requestParts c = some (p, code, owner))
      (ho : (owner s).state.slot o = none) : (effect c s).slot o = none :=
    keeps_request (I := fun t => t.slot o = none) (fun _ _ h => h) h vacant ho
  cases c with
  | arm outlet hold plan cls ref => exact request rfl (vacant_answerArm rest vacant outlet _ plan cls ref)
  | topup number amount => exact request rfl (vacant_answerTopup vacant _ _)
  | releaseClosure number => exact request rfl (vacant_answerRelease vacant _)
  | pulseTaken p => exact vacant_takePulse vacant p
  | settleDeadline p => exact vacant_settleDeadline vacant p
  | _ => exact vacant_of_ledger (ledger_effect s rfl) vacant

/-! ### Report exchanges -/

/-- What a command that does not move the park may do to an outlet's exchange (R100, R102). -/
def ExchangeMoved (s t : State) (o : Outlet) : Prop :=
  t.exchange o = s.exchange o ∨ (s.control.mode = .maintenance ∧ t.exchange o = { s.exchange o with writing := 0 }) ∨
    (s.control.mode = .operating ∧ s.present o = true ∧ ∃ r, t.exchange o = (s.exchange o).accept r)

theorem exchangeMoved_discardFrame (s : State) (p o : Outlet) : ExchangeMoved s (s.discardFrame p) o := by
  rw [discardFrame_eq]
  split
  next mode =>
    rw [ExchangeMoved, exchange_setExchange]
    split
    next e => rw [e]; exact .inr (.inl ⟨mode, rfl⟩)
    next => exact .inl rfl
  next => exact .inl rfl

theorem exchangeMoved_countDiscard (s : State) (p o : Outlet) : ExchangeMoved s (s.countDiscard p) o :=
  exchangeMoved_discardFrame s p o

theorem exchangeMoved_judgeReport (s : State) (p : Outlet) (body : List Byte) (o : Outlet) : ExchangeMoved s (s.judgeReport p body) o := by
  unfold State.judgeReport
  split
  next r h =>
    unfold State.acceptable at h
    split at h
    next conditions =>
      obtain ⟨_, present, mode⟩ := conditions
      rw [ExchangeMoved, exchange_setExchange]
      split
      next e => rw [← e]; exact .inr (.inr ⟨mode, present, r, rfl⟩)
      next => exact .inl rfl
    next => cases h
  next => exact exchangeMoved_countDiscard s p o

theorem exchangeMoved_discardAssembling (s : State) (o : Outlet) : ExchangeMoved s s.discardAssembling o := by
  unfold State.discardAssembling
  split
  · split
    · exact exchangeMoved_discardFrame s _ o
    · exact .inl rfl
  · exact .inl rfl
  · exact .inl rfl

theorem exchangeMoved_effect {c : Instr} (s : State) (h : writesControl c = false) (o : Outlet) : ExchangeMoved s (effect c s) o := by
  cases c with
  | reportFrame p body ended =>
    show ExchangeMoved s (s.reportFrame p body.toList ended) o
    unfold State.reportFrame
    split
    · split
      · exact .inl rfl
      · exact exchangeMoved_judgeReport s p _ o
    · exact .inl rfl
  | gapTimeOut p chars =>
    show ExchangeMoved s (s.gapTimeOut p chars) o
    unfold State.gapTimeOut
    split
    · exact exchangeMoved_discardFrame s p o
    · exact .inl rfl
  | rejectedCharacter framing =>
    show ExchangeMoved s (s.rejectCharacter framing) o
    unfold State.rejectCharacter
    split
    · exact exchangeMoved_discardAssembling s o
    · exact .inl rfl
  | reportDiscard p chars ended =>
    show ExchangeMoved s (s.reportDiscard p chars ended) o
    unfold State.reportDiscard
    split
    · split
      · exact exchangeMoved_countDiscard s p o
      · split <;> exact .inl rfl
    · exact .inl rfl
  | startPark => cases h
  | stopPark => cases h
  | cycleExpiry quiet => cases h
  | _ => exact .inl (exchange_congr (exchanges_effect s rfl) o)

/-! ### An outlet at rest -/

theorem link_effect {c : Instr} (s : State) (h : writesControl c = false) (o : Outlet) :
    ((effect c s).link o).link = (s.link o).link ∧ ((effect c s).link o).miss = (s.link o).miss := by
  cases c with
  | openingBegin =>
    show (s.openingBegin.link o).link = _ ∧ (s.openingBegin.link o).miss = _
    unfold State.openingBegin
    split
    · rw [link_beginOpening]; exact ⟨rfl, rfl⟩
    · exact ⟨rfl, rfl⟩
  | startPark => cases h
  | stopPark => cases h
  | cycleExpiry quiet => cases h
  | _ => exact (lineCore_iff.1 (lineCore_effect s rfl)).1 o

theorem share_of_control {c : Instr} (s : State) (h : writesControl c = false) : share (effect c s) = share s :=
  share_effect s (by cases c <;> first | rfl | cases h)

theorem atRest_effect {c : Instr} {s : State} (h : writesControl c = false) {o : Outlet} (rest : Resting s o) (hs : OutletAtRest s o) :
    OutletAtRest (effect c s) o := by
  obtain ⟨vacant, record, latest, held, link, miss⟩ := hs
  obtain ⟨link', miss'⟩ := link_effect s h o
  have roles : ((effect c s).exchange o).latest = none ∧ ((effect c s).exchange o).held = none := by
    rcases exchangeMoved_effect s h o with e | ⟨_, e⟩ | ⟨mode, present, r, e⟩
    · rw [e]; exact ⟨latest, held⟩
    · rw [e]; exact ⟨latest, held⟩
    · rcases rest with m | absent
      · rw [mode] at m; cases m
      · rw [present] at absent; cases absent
  exact ⟨vacant_effect c rest vacant, (record_of_share (share_of_control s h) o).trans record, roles.1, roles.2, link'.trans link,
    miss'.trans miss⟩

/-! ### Commands that leave the control block -/

theorem openingPending_effect {c : Instr} {s : State} (h : writesControl c = false) (stands : s.line.openingPending = false) :
    (effect c s).line.openingPending = false := by
  cases c with
  | openingBegin =>
    show s.openingBegin.line.openingPending = false
    unfold State.openingBegin
    rw [stands]
    exact stands
  | startPark => cases h
  | stopPark => cases h
  | cycleExpiry quiet => cases h
  | _ => exact (lineCore_iff.1 (lineCore_effect s rfl)).2.2.trans stands

theorem unassigned_effect {c : Instr} {s : State} (h : writesControl c = false) {m : ModuleNo}
    (unused : (s.module m).state.assigned = none) : ((effect c s).module m).state.assigned = none := by
  have step := (moves_effect s (c := c) (by cases c <;> first | rfl | cases h)).1.1 m
  refine Option.eq_none_iff_forall_ne_some.2 fun o e => ?_
  rw [step.1 o e] at unused
  cases unused

theorem modeInv_effect_of {c : Instr} {s : State} (h : writesControl c = false) (hs : ModeInv s) : ModeInv (effect c s) := by
  obtain ⟨maintenance, operating, absent⟩ := hs
  have control := control_effect s h
  refine ⟨fun mode => ?_, fun mode => ?_, fun o ho => ?_⟩
  · rw [control] at mode
    obtain ⟨timer, pending, cap, available, outlets, modules⟩ := maintenance mode
    obtain ⟨cap', available'⟩ := caps_of_share (share_of_control s h)
    exact ⟨by rw [control]; exact timer, openingPending_effect h pending, cap'.trans cap, available'.trans available,
      fun o => atRest_effect h (.inl mode) (outlets o), fun m => unassigned_effect h (modules m)⟩
  · rw [control] at mode ⊢
    exact operating mode
  · rw [present_congr control] at ho
    exact atRest_effect h (.inr ho) (absent o ho)

/-! ### CONFIG_WRITE, START_PARK, STOP_PARK -/

theorem write_moves (c : ModeControl) (v : Nat) (r : ConfigRef) : (c.write v r).mode = c.mode ∧ (c.write v r).cycleTimer = c.cycleTimer := by
  cases r <;> exact ⟨rfl, rfl⟩

theorem modeInv_answerConfigWrite {s : State} (hs : ModeInv s) (item index : Byte) (value : BitVec 32) :
    ModeInv (s.answerConfigWrite item index value).state := by
  rcases answerConfigWrite_cases s item index value with e | ⟨mode, r, v, e⟩ <;> rw [e]
  · exact hs
  obtain ⟨timer, rest⟩ := hs.1 mode
  obtain ⟨sameMode, sameTimer⟩ := write_moves s.control v r
  refine ⟨fun _ => ⟨sameTimer.trans timer, rest⟩, fun operating => ?_, fun o _ => rest.2.2.2.1 o⟩
  have : s.control.mode = .operating := sameMode.symm.trans operating
  rw [mode] at this
  cases this

theorem modeInv_answerStartPark {s : State} (hs : ModeInv s) : ModeInv s.answerStartPark.state := by
  rcases answerStartPark_cases s with e | ⟨mode, check, e⟩ <;> rw [e]
  · exact hs
  obtain ⟨_, _, _, _, outlets, _⟩ := hs.1 mode
  refine ⟨nofun, fun _ => ⟨rfl, check⟩, fun o _ => ⟨(outlets o).1, record_startUp s o, ?_, ?_, ?_, ?_⟩⟩
  · rw [exchange_startUp]; rfl
  · rw [exchange_startUp]; rfl
  · rw [link_startUp]; rfl
  · rw [link_startUp]; rfl

theorem modeInv_answerStopPark {s : State} (hs : ModeInv s) : ModeInv s.answerStopPark.state := by
  rcases answerStopPark_cases s with e | ⟨_, slots, modules, e⟩ <;> rw [e]
  · exact hs
  have outlets (o : Outlet) : OutletAtRest s.shutDown o := by
    refine ⟨slots o, record_shutDown s o, ?_, ?_, ?_, ?_⟩
    · rw [exchange_shutDown]; rfl
    · rw [exchange_shutDown]; rfl
    · rw [link_shutDown]; rfl
    · rw [link_shutDown]; rfl
  exact ⟨fun _ => ⟨rfl, rfl, rfl, rfl, outlets, modules⟩, nofun, fun o _ => outlets o⟩

/-! ### The cycle expiry -/

theorem take_absent_frame (s : State) {o : Outlet} (absent : s.present o = false) (p : Outlet) : (s.take p).control = s.control ∧
    (s.take p).exchange o = s.exchange o ∧ (s.take p).link o = s.link o := by
  by_cases e : o = p
  · subst e
    rw [take_absent absent]
    exact ⟨rfl, rfl, rfl⟩
  · obtain ⟨l, line⟩ := line_take s p
    exact ⟨control_take s p, exchange_take_other e, link_of_line line e⟩

theorem takes_absent (s : State) {o : Outlet} (absent : s.present o = false) :
    s.takes.exchange o = s.exchange o ∧ s.takes.link o = s.link o := by
  unfold State.takes
  refine (foldl_keeps (I := fun u => u.control = s.control ∧ u.exchange o = s.exchange o ∧ u.link o = s.link o)
    (fun u p ⟨control, exchange, link⟩ => ?_) allOutlets s ⟨rfl, rfl, rfl⟩).2
  obtain ⟨control', exchange', link'⟩ := take_absent_frame u ((present_congr control o).trans absent) p
  exact ⟨control'.trans control, exchange'.trans exchange, link'.trans link⟩

theorem link_handOver (s : State) (quiet : Bool) (o : Outlet) :
    ((s.handOver quiet).link o).link = (s.link o).link ∧ ((s.handOver quiet).link o).miss = (s.link o).miss := by
  have skipped : s.skipPending.link o = s.link o := by
    unfold State.skipPending
    split <;> rfl
  unfold State.handOver
  simp only
  split
  · rw [link_beginOpening, ← skipped]
    exact ⟨rfl, rfl⟩
  · rw [← skipped]
    exact ⟨rfl, rfl⟩

theorem record_dispatch_vacant {s : State} {o : Outlet} (vacant : s.slot o = none) (absent : s.present o = false) :
    s.dispatch.record o = s.record o := by
  have idle : s.fundsStage.isCharging o = false := by
    rw [State.isCharging, vacant_of_ledger (ledger_fundsStage s) vacant]
    rfl
  rw [record_dispatch_idle idle, absent]
  rfl

theorem atRest_cycle {s : State} {o : Outlet} (d : Nat) (quiet : Bool) (absent : s.present o = false) (hs : OutletAtRest s o) :
    OutletAtRest ((s.rearm d).takes.dispatch.handOver quiet) o := by
  obtain ⟨vacant, record, latest, held, link, miss⟩ := hs
  have vacant' : (s.rearm d).takes.slot o = none := vacant_of_ledger (ledger_takes (s.rearm d)) vacant
  have absent' : (s.rearm d).takes.present o = false := (present_congr (control_takes (s.rearm d)) o).trans absent
  obtain ⟨exchange, taken⟩ := takes_absent (s.rearm d) (o := o) absent
  obtain ⟨link', miss'⟩ := link_handOver (s.rearm d).takes.dispatch quiet o
  have exchange' : ((s.rearm d).takes.dispatch.handOver quiet).exchange o = s.exchange o :=
    (exchange_congr (by simp) o).trans exchange
  rw [link_congr (line_dispatch _), taken] at link' miss'
  refine ⟨?_, ?_, by rw [exchange']; exact latest, by rw [exchange']; exact held, link'.trans link, miss'.trans miss⟩
  · rw [slot_congr (sessions_handOver _ quiet)]
    exact vacant_of_ledger (ledger_dispatch _) vacant'
  · rw [record_congr (dispatcher_handOver _ quiet), record_dispatch_vacant vacant' absent', record_congr (dispatcher_takes _)]
    exact record

theorem modeInv_cycleExpiry {s : State} (hs : ModeInv s) (quiet : Bool) : ModeInv (s.cycleExpiry quiet) := by
  rcases cycleExpiry_cases s quiet with e | ⟨d, mode, e⟩ <;> rw [e]
  · exact hs
  obtain ⟨_, operating, absent⟩ := hs
  have control : ((s.rearm d).takes.dispatch.handOver quiet).control = (s.rearm d).control := by simp
  refine ⟨fun maintenance => ?_, fun _ => ?_, fun o ho => ?_⟩
  · rw [control] at maintenance
    exact absurd (mode.symm.trans maintenance) nofun
  · rw [control]
    exact ⟨rfl, (operating mode).2⟩
  · rw [present_congr control] at ho
    exact atRest_cycle d quiet ho (absent o ho)

/-! ### Every step -/

theorem modeInv_effect (c : Instr) (s : State) (hs : ModeInv s) : ModeInv (effect c s) := by
  cases c with
  | configWrite item index value =>
    exact keeps_request (I := ModeInv) (c := .configWrite item index value) (fun _ _ h => h) rfl hs (modeInv_answerConfigWrite hs _ _ _)
  | startPark => exact keeps_request (I := ModeInv) (c := .startPark) (fun _ _ h => h) rfl hs (modeInv_answerStartPark hs)
  | stopPark => exact keeps_request (I := ModeInv) (c := .stopPark) (fun _ _ h => h) rfl hs (modeInv_answerStopPark hs)
  | cycleExpiry quiet => exact modeInv_cycleExpiry hs quiet
  | _ => exact modeInv_effect_of rfl hs

theorem atRest_reset (o : Outlet) : OutletAtRest State.reset o :=
  ⟨vacant_reset o, by revert o; decide, by revert o; decide, by revert o; decide, by revert o; decide, by revert o; decide⟩

theorem modeInv_reset : ModeInv State.reset :=
  ⟨fun _ => ⟨rfl, rfl, rfl, rfl, atRest_reset, by decide⟩, nofun, fun o _ => atRest_reset o⟩

/-- Settles O53: the commands that leave the control block keep every outlet that takes no part at rest; of the four that write it only
START_PARK leaves MAINTENANCE, and it checks. -/
theorem modeKept : Obligations.ModeKept := fun s t hs h =>
  step_keeps ModeInv (fun _ _ h => h) modeInv_reset (fun _ _ h => h) (fun _ _ h => h) (fun _ h => h) modeInv_effect s t hs h

end Sys2Proof.Proofs.RestKept
end

section
/-! The report exchange (R102): the three roles lie on distinct buffers, and a buffer holds a report exactly when it is LATEST or HELD. -/

namespace Sys2Proof.Proofs.RolesKept

open Sys2Proof.Machine Sys2Proof.Safety Sys2Proof.Laws
open Sys2Proof.Proofs.Footprint Sys2Proof.Proofs.LineFrames Sys2Proof.Proofs.Takes Sys2Proof.Proofs.Rooms
open Sys2Proof.Proofs.ParkMoves Sys2Proof.Proofs.RestKept

/-! ### One exchange -/

theorem rolesDistinct_accept {x : Exchange} (h : RolesDistinct x) (r : Report) : RolesDistinct (x.accept r) := by
  obtain ⟨_, heldFree, distinct, holds⟩ := h
  obtain ⟨latest, held, new, others, writing, heldFree', _⟩ := accept_spec x r
  refine ⟨?_, by rwa [held], .inr ?_, fun b => ?_⟩
  · rw [latest]
    exact fun e => writing (Option.some.inj e).symm
  · rw [latest, held]
    exact heldFree.symm
  rw [latest, held]
  by_cases e : b = x.writing
  · subst e
    rw [new]
    exact ⟨fun _ => .inl rfl, fun _ => rfl⟩
  have other : x.writing ≠ b := Ne.symm e
  rw [others b e]
  split
  next last =>
    refine ⟨nofun, fun roles => ?_⟩
    rcases roles with now | kept
    · exact absurd (Option.some.inj now) other
    · rcases distinct with none' | ne
      · rw [last] at none'; cases none'
      · exact absurd (last.trans kept.symm) ne
  next notLast =>
    rw [holds b]
    exact ⟨fun roles => .inr (roles.resolve_left notLast), fun roles => .inr (roles.resolve_left fun now => other (Option.some.inj now))⟩

theorem rolesDistinct_empty {x : Exchange} (latest : x.latest = none) (held : x.held = none) (empty : ∀ b : Fin 3, x.buffers[b] = none) :
    RolesDistinct x := by
  refine ⟨by rw [latest]; exact nofun, by rw [held]; exact nofun, .inl latest, fun b => ?_⟩
  rw [latest, held, empty]
  exact ⟨nofun, fun h => h.elim nofun nofun⟩

theorem rolesDistinct_unused {x : Exchange} (h : RolesDistinct x) (latest : x.latest = none) (held : x.held = none) (w : Fin 3) :
    RolesDistinct { x with writing := w } := by
  refine rolesDistinct_empty latest held fun b => Option.not_isSome_iff_eq_none.1 fun full => ?_
  have roles := (h.2.2.2 b).1 full
  rw [latest, held] at roles
  exact roles.elim nofun nofun

theorem rolesDistinct_takeFresh {x : Exchange} (h : RolesDistinct x) : RolesDistinct x.takeFresh := by
  obtain ⟨latestFree, _, distinct, holds⟩ := h
  refine ⟨nofun, latestFree, .inl rfl, fun b => ?_⟩
  have buffer : x.takeFresh.buffers[b] = if x.held = some b then none else x.buffers[b] := getElem_emptied x.buffers x.held b
  rw [buffer]
  show _ ↔ none = some b ∨ x.latest = some b
  split
  next held =>
    refine ⟨nofun, fun roles => ?_⟩
    have latest := roles.resolve_left nofun
    rcases distinct with none' | ne
    · rw [latest] at none'; cases none'
    · exact absurd (latest.trans held.symm) ne
  next notHeld =>
    rw [holds b]
    exact ⟨fun roles => .inr (roles.resolve_right notHeld), fun roles => .inl (roles.resolve_left nofun)⟩

theorem rolesDistinct_dropLatest {x : Exchange} (h : RolesDistinct x) : RolesDistinct x.dropLatest := by
  obtain ⟨_, heldFree, distinct, holds⟩ := h
  refine ⟨nofun, heldFree, .inl rfl, fun b => ?_⟩
  have buffer : x.dropLatest.buffers[b] = if x.latest = some b then none else x.buffers[b] := getElem_emptied x.buffers x.latest b
  rw [buffer]
  show _ ↔ none = some b ∨ x.held = some b
  split
  next latest =>
    refine ⟨nofun, fun roles => ?_⟩
    have held := roles.resolve_left nofun
    rcases distinct with none' | ne
    · rw [latest] at none'; cases none'
    · exact absurd (latest.trans held.symm) ne
  next notLatest =>
    rw [holds b]
    exact ⟨fun roles => .inr (roles.resolve_left notLatest), fun roles => .inr (roles.resolve_left nofun)⟩

theorem buffers_reset : ∀ b : Fin 3, Exchange.reset.buffers[b] = none := by decide

theorem rolesDistinct_reset : RolesDistinct .reset := rolesDistinct_empty rfl rfl buffers_reset

theorem rolesDistinct_stopped (x : Exchange) (assembling : Bool) : RolesDistinct (x.stopped assembling) :=
  rolesDistinct_empty rfl rfl buffers_reset

/-! ### Every step -/

theorem exchangeInv_congr {s t : State} (h : t.exchanges = s.exchanges) (hs : ExchangeInv s) : ExchangeInv t := fun o => by
  rw [exchange_congr h]; exact hs o

theorem exchangeInv_take {s : State} (hs : ExchangeInv s) (o : Outlet) : ExchangeInv (s.take o) := by
  intro p
  unfold State.take
  split
  · split
    · rw [exchange_freshTake]
      split
      · exact rolesDistinct_takeFresh (hs o)
      · exact hs p
    · rw [exchange_staleTake]
      split
      · exact rolesDistinct_dropLatest (hs o)
      · exact hs p
  · exact hs p

theorem exchangeInv_takes {s : State} (hs : ExchangeInv s) : ExchangeInv s.takes := by
  unfold State.takes
  exact foldl_keeps (I := ExchangeInv) (fun _ o h => exchangeInv_take h o) _ s hs

theorem exchangeInv_effect (c : Instr) {s : State} (mode : ModeInv s) (hs : ExchangeInv s) : ExchangeInv (effect c s) := by
  have quiet {c : Instr} (h : writesControl c = false) : ExchangeInv (effect c s) := by
    intro o
    rcases exchangeMoved_effect s h o with e | ⟨maintenance, e⟩ | ⟨_, _, r, e⟩ <;> rw [e]
    · exact hs o
    · obtain ⟨_, _, _, _, outlets, _⟩ := mode.1 maintenance
      obtain ⟨_, _, latest, held, _⟩ := outlets o
      exact rolesDistinct_unused (hs o) latest held 0
    · exact rolesDistinct_accept (hs o) r
  cases c with
  | configWrite item index value => exact exchangeInv_congr (exchanges_effect s rfl) hs
  | startPark =>
    refine keeps_request (I := ExchangeInv) (c := .startPark) (fun _ _ h => h) rfl hs ?_
    rcases answerStartPark_cases s with e | ⟨_, _, e⟩ <;> rw [e]
    · exact hs
    · exact fun o => by rw [exchange_startUp]; exact rolesDistinct_reset
  | stopPark =>
    refine keeps_request (I := ExchangeInv) (c := .stopPark) (fun _ _ h => h) rfl hs ?_
    rcases answerStopPark_cases s with e | ⟨_, _, _, e⟩ <;> rw [e]
    · exact hs
    · exact fun o => by rw [exchange_shutDown]; exact rolesDistinct_stopped _ _
  | cycleExpiry wireQuiet =>
    show ExchangeInv (s.cycleExpiry wireQuiet)
    rcases cycleExpiry_cases s wireQuiet with e | ⟨d, _, e⟩ <;> rw [e]
    · exact hs
    · exact exchangeInv_congr (s := (s.rearm d).takes) (by simp) (exchangeInv_takes (exchangeInv_congr (exchanges_rearm s d) hs))
  | _ => exact quiet rfl

theorem exchangeInv_reset : ExchangeInv State.reset := by
  have starts : ∀ o, State.reset.exchange o = .reset := by decide
  exact fun o => by rw [starts]; exact rolesDistinct_reset

/-- Settles O54: accepting, taking fresh and dropping each keep the roles of one exchange apart, and in MAINTENANCE, where a discard moves
WRITING to buffer 0, no other role is given. -/
theorem exchangeRolesKept : Obligations.ExchangeRolesKept := by
  intro s t mode hs h
  exact (step_keeps (fun s => ModeInv s ∧ ExchangeInv s) (fun _ _ h => h) ⟨modeInv_reset, exchangeInv_reset⟩ (fun _ _ h => h)
    (fun _ _ h => h) (fun _ h => h) (fun c s h => ⟨modeInv_effect c s h.1, exchangeInv_effect c h.1 h.2⟩) s t ⟨mode, hs⟩ h).2

end Sys2Proof.Proofs.RolesKept

namespace Sys2Proof.Proofs.ServiceKept

open Sys2Proof.Machine Sys2Proof.Safety Sys2Proof.Laws
open Sys2Proof.Proofs.Footprint Sys2Proof.Proofs.Rooms Sys2Proof.Proofs.ParkMoves Sys2Proof.Proofs.RestKept
open Sys2Proof.Proofs.ModuleMoves Sys2Proof.Proofs.CommandMoves Sys2Proof.Proofs.EffectMoves

/-! ### The pool and the cabinet queue -/

/-- What the modules, the cabinet queue and the module limits keep of each other. -/
def PoolKept (s : State) : Prop := PoolInv s ∧ CabinetInv s

theorem poolKept_moves {s t : State} (m : Moves s t) (limits : ∀ o, (t.outletItems o).moduleLimit = (s.outletItems o).moduleLimit)
    (h : PoolKept s) : PoolKept t := by
  obtain ⟨⟨steps, cabinet⟩, _⟩ := m
  obtain ⟨⟨ok, holds⟩, queue⟩ := h
  refine ⟨⟨fun k => (steps k).2.2.2 (ok k), fun o => ?_⟩, cabinet queue⟩
  rw [limits]
  exact (holding_mono fun k => (steps k).2.1 o).trans (holds o)

theorem poolKept_requestFor {s : State} (c : Claim) (h : PoolKept s) : PoolKept (s.requestFor c) := by
  obtain ⟨⟨ok, holds⟩, queue⟩ := h
  obtain ⟨ok', cabinet, _⟩ := requested_requestMany c.outlet
    (min (s.moduleTarget c.outlet - s.holding c.outlet) ((s.outletItems c.outlet).moduleLimit - s.holding c.outlet)) s
  exact ⟨⟨ok' ok, holdingWithinLimit_requestFor c holds⟩, cabinet queue⟩

/-- R128: an outlet to which no module is assigned holds none. -/
theorem holding_unassigned {s : State} (h : ∀ m, (s.module m).state.assigned = none) (o : Outlet) : s.holding o = 0 := by
  refine List.countP_eq_zero.2 fun m _ held => ?_
  rw [beq_iff_eq] at held
  have assigned := assigned_of_heldBy held
  rw [h m] at assigned
  cases assigned

theorem moduleOk_setUp (m : Module) (c : ModuleItems) : ModuleOk (m.setUp c) := by
  refine (moduleOk_unassigned (unassigned_setUp m c)).2 ⟨nofun, fun on => ?_⟩
  have on : m.indication = .faultOn := on
  unfold Module.setUp
  simp only [on, if_true]
  split
  · exact .inr rfl
  · exact .inl rfl

theorem poolKept_effect (c : Instr) {s : State} (mode : ModeInv s) (h : PoolKept s) : PoolKept (effect c s) := by
  cases c with
  | configWrite item index value =>
    refine keeps_request (I := PoolKept) (c := .configWrite item index value) (fun _ _ h => h) rfl h ?_
    rcases answerConfigWrite_cases s item index value with e | ⟨maintenance, r, v, e⟩ <;> rw [e]
    · exact h
    obtain ⟨_, _, _, _, _, unassigned⟩ := mode.1 maintenance
    obtain ⟨⟨ok, _⟩, queue⟩ := h
    exact ⟨⟨ok, fun o => (holding_unassigned (s := s) unassigned o).trans_le (Nat.zero_le _)⟩, queue⟩
  | startPark =>
    refine keeps_request (I := PoolKept) (c := .startPark) (fun _ _ h => h) rfl h ?_
    rcases answerStartPark_cases s with e | ⟨_, _, e⟩ <;> rw [e]
    · exact h
    refine ⟨⟨fun m => by rw [module_startUp]; exact moduleOk_setUp _ _, fun o => ?_⟩, h.2⟩
    rw [holding_unassigned fun m => by rw [module_startUp]; exact unassigned_setUp _ _]
    exact Nat.zero_le _
  | stopPark =>
    refine keeps_request (I := PoolKept) (c := .stopPark) (fun _ _ h => h) rfl h ?_
    rcases answerStopPark_cases s with e | ⟨_, _, _, e⟩ <;> rw [e] <;> exact h
  | cycleExpiry quiet => exact cycleExpiry_keeps poolKept_moves (fun c _ => poolKept_requestFor c) quiet h
  | _ => exact poolKept_moves (moves_effect s rfl) (fun o => by rw [outletItems_congr (control_effect s rfl)]) h

theorem poolKept_reset : PoolKept State.reset := by
  have modules : ∀ m, State.reset.module m = .reset := by decide
  have unassigned (m : ModuleNo) : (State.reset.module m).state.assigned = none := by rw [modules]; rfl
  refine ⟨⟨fun m => ?_, fun o => (holding_unassigned unassigned o).trans_le (Nat.zero_le _)⟩, List.nodup_nil, fun _ => rfl⟩
  rw [modules]
  exact (moduleOk_unassigned rfl).2 ⟨nofun, nofun⟩

/-- Settles O55: the relation of the commands gives no module an assignment or a holding; the requests of a dispatch, which do, take a FREE
module within reach and stop at the limit. -/
theorem modulePoolKept : Obligations.ModulePoolKept := by
  intro s t mode pool cabinet h
  exact (step_keeps (fun s => ModeInv s ∧ PoolKept s) (fun _ _ h => h) ⟨modeInv_reset, poolKept_reset⟩ (fun _ _ h => h)
    (fun _ _ h => h) (fun _ h => h) (fun c s h => ⟨modeInv_effect c s h.1, poolKept_effect c h.1 h.2⟩) s t ⟨mode, pool, cabinet⟩ h).2

/-! ### Modules that serve, and settle deadlines -/

theorem releaseInv_requestFor {s : State} (c : Claim) (charging : s.isCharging c.outlet = true) (h : ReleaseInv s) :
    ReleaseInv (s.requestFor c) := by
  obtain ⟨_, _, _, _, release⟩ := requested_requestMany c.outlet
    (min (s.moduleTarget c.outlet - s.holding c.outlet) ((s.outletItems c.outlet).moduleLimit - s.holding c.outlet)) s
  exact release charging h

theorem releaseInv_idle {s : State} (vacant : ∀ o, s.slot o = none) (unassigned : ∀ m, (s.module m).state.assigned = none) :
    ReleaseInv s := by
  refine ⟨fun m o h => ?_, fun o ses r t d h => ?_⟩
  · have assigned := assigned_of_serving h
    rw [unassigned m] at assigned
    cases assigned
  · rw [vacant o] at h
    cases h

theorem releaseInv_effect (c : Instr) {s : State} (mode : ModeInv s) (h : ReleaseInv s) : ReleaseInv (effect c s) := by
  cases c with
  | startPark =>
    refine keeps_request (I := ReleaseInv) (c := .startPark) (fun _ _ h => h) rfl h ?_
    rcases answerStartPark_cases s with e | ⟨maintenance, _, e⟩ <;> rw [e]
    · exact h
    obtain ⟨_, _, _, _, outlets, _⟩ := mode.1 maintenance
    exact releaseInv_idle (fun o => (outlets o).1) fun m => by rw [module_startUp]; exact unassigned_setUp _ _
  | cycleExpiry quiet => exact cycleExpiry_keeps (fun m _ => m.2) releaseInv_requestFor quiet h
  | _ => exact (moves_effect s rfl).2 h

theorem releaseInv_reset : ReleaseInv State.reset := releaseInv_idle vacant_reset (by decide)

/-- Settles O56: a session that leaves CHARGING releases its modules, a module that leaves an outlet is reported to it, and only outlets in
CHARGING request modules. -/
theorem releasesKept : Obligations.ReleasesKept := by
  intro s t mode hs h
  exact (step_keeps (fun s => ModeInv s ∧ ReleaseInv s) (fun _ _ h => h) ⟨modeInv_reset, releaseInv_reset⟩ (fun _ _ h => h)
    (fun _ _ h => h) (fun _ h => h) (fun c s h => ⟨modeInv_effect c s h.1, releaseInv_effect c h.1 h.2⟩) s t ⟨mode, hs⟩ h).2

end Sys2Proof.Proofs.ServiceKept
end

section
/-! The grants (R120 to R127): each within its ceiling, and their sum within the power of the last dispatch. -/

namespace Sys2Proof.Proofs.GrantsKept

open Sys2Proof.Machine Sys2Proof.Safety Sys2Proof.Laws
open Sys2Proof.Proofs.Footprint Sys2Proof.Proofs.Dispatching Sys2Proof.Proofs.LineAndShare Sys2Proof.Proofs.ParkMoves
open Sys2Proof.Proofs.Rooms Sys2Proof.Proofs.RestKept Sys2Proof.Proofs.Accounts

/-! ### Amounts of a list, over distinct outlets -/

theorem amountFor_nil (o : Outlet) : amountFor [] o = 0 := rfl

theorem sum_indicator_le {p : Outlet} {x : Nat} : ∀ {os : List Outlet}, os.Nodup → (os.map fun o => if p = o then x else 0).sum ≤ x
  | [], _ => Nat.zero_le x
  | o :: rest, nodup => by
    obtain ⟨fresh, nodup'⟩ := List.nodup_cons.1 nodup
    rw [List.map_cons, List.sum_cons]
    split
    next e =>
      have none' : (rest.map fun q => if p = q then x else 0).sum = 0 :=
        List.sum_eq_zero fun n hn => by
          obtain ⟨q, hq, rfl⟩ := List.mem_map.1 hn
          exact if_neg fun h => fresh (by rw [← e, h]; exact hq)
      omega
    next =>
      have ih := sum_indicator_le (p := p) (x := x) nodup'
      omega

theorem sum_amountFor_le {os : List Outlet} (nodup : os.Nodup) : ∀ l : List (Outlet × Nat),
    (os.map fun o => amountFor l o).sum ≤ (l.map (·.2)).sum
  | [] => by simp [amountFor_nil]
  | (p, x) :: rest => by
    have step : (os.map fun o => amountFor ((p, x) :: rest) o).sum ≤
        (os.map fun o => (if p = o then x else 0) + amountFor rest o).sum := by
      refine List.sum_le_sum fun o _ => ?_
      split
      next e => rw [e, amountFor_cons_self]; exact Nat.le_add_right _ _
      next ne => rw [amountFor_cons_other _ _ ne, Nat.zero_add]
    rw [List.sum_map_add] at step
    rw [List.map_cons, List.sum_cons]
    exact step.trans (Nat.add_le_add (sum_indicator_le nodup) (sum_amountFor_le nodup rest))

/-! ### Admission and sharing stay within A -/

theorem sum_admitClaims_le {available : Nat} : ∀ (l : List Claim) {sum : Nat}, sum ≤ available →
    sum + ((admitClaims available sum l).map (·.minimum)).sum ≤ available
  | [], sum, le => le
  | c :: rest, sum, le => by
    unfold admitClaims
    split
    next fits =>
      have ih := sum_admitClaims_le rest fits
      rw [List.map_cons, List.sum_cons]
      omega
    next => exact le

theorem sum_shareClass {admitted : List Claim} (nodup : (admitted.map (·.outlet)).Nodup) (cls e : Nat) :
    ((shareClass admitted cls e).1.map (·.2)).sum + (shareClass admitted cls e).2 = e :=
  (shareOut_level _ e (sorted_byRoom _) (nodup_byRoom ((List.filter_sublist.map _).nodup nodup))).1

theorem sum_shares_le {admitted : List Claim} (nodup : (admitted.map (·.outlet)).Nodup) (e : Nat) :
    ((shares admitted e).map (·.2)).sum ≤ e := by
  have two := sum_shareClass nodup 2 e
  have one := sum_shareClass nodup 1 (shareClass admitted 2 e).2
  have zero := sum_shareClass nodup 0 (shareClass admitted 1 (shareClass admitted 2 e).2).2
  unfold shares
  simp only [List.map_append, List.sum_append]
  omega

/-- R126: no class gives a claim more than its room. -/
theorem amountFor_shareClass_le {admitted : List Claim} (nodup : (admitted.map (·.outlet)).Nodup) {c : Claim} (hc : c ∈ admitted) (e : Nat) :
    amountFor (shareClass admitted c.cls e).1 c.outlet ≤ c.room := by
  have own : c ∈ sortBy Claim.roomBefore (admitted.filter fun d => d.cls == c.cls) :=
    mem_sortBy.2 (List.mem_filter.2 ⟨hc, beq_self_eq_true _⟩)
  obtain ⟨_, level, _, amounts, _⟩ :=
    shareOut_level _ e (sorted_byRoom (admitted.filter fun d => d.cls == c.cls)) (nodup_byRoom ((List.filter_sublist.map _).nodup nodup))
  rw [shareClass, amounts c own]
  exact Nat.min_le_left _ _

theorem amountFor_absent {l : List (Outlet × Nat)} {o : Outlet} (h : ¬∃ n, (o, n) ∈ l) : amountFor l o = 0 := by
  rw [← List.append_nil l, (amountFor_append l [] o).2 h, amountFor_nil]

theorem amountFor_shares_le {admitted : List Claim} (nodup : (admitted.map (·.outlet)).Nodup) {c : Claim} (hc : c ∈ admitted) (e : Nat) :
    amountFor (shares admitted e) c.outlet ≤ c.room := by
  obtain ⟨two, one, zero⟩ := amountFor_shares nodup hc e
  have within := amountFor_shareClass_le nodup hc
  by_cases h2 : c.cls = 2
  · rw [two h2, ← h2]; exact within _
  by_cases h1 : c.cls = 1
  · rw [one h1, ← h1]; exact within _
  by_cases h0 : c.cls = 0
  · rw [zero h0, ← h0]; exact within _
  have foreign (cls e' : Nat) (ne : c.cls ≠ cls) : ¬∃ n, (c.outlet, n) ∈ (shareClass admitted cls e').1 := by
    rw [mem_shareClass]
    rintro ⟨d, hd, own, same⟩
    rw [claim_eq_of_outlet nodup hd hc same] at own
    exact ne own
  have none' : ¬∃ n, (c.outlet, n) ∈ shares admitted e := by
    unfold shares
    simp only [List.mem_append]
    rintro ⟨n, (h | h) | h⟩
    · exact foreign 2 _ h2 ⟨n, h⟩
    · exact foreign 1 _ h1 ⟨n, h⟩
    · exact foreign 0 _ h0 ⟨n, h⟩
  rw [amountFor_absent none']
  exact Nat.zero_le _

/-! ### Stages 5 and 6 -/

/-- The claims stage 5 admits. -/
def admittedClaims (u : State) : List Claim := admitClaims u.dispatcher.available 0 u.serviceOrder

/-- The amounts stage 6 shares. -/
def given (u : State) : List (Outlet × Nat) :=
  shares (admittedClaims u) (u.dispatcher.available - ((admittedClaims u).map (·.minimum)).sum)

theorem nodup_admittedClaims (u : State) : ((admittedClaims u).map (·.outlet)).Nodup :=
  ((admitClaims_sublist _ _ _).map _).nodup (serviceOrder_nodup u)

/-- R125, R127: a record after stage 6: granted to an admitted claim, no grant to a queued one, else as it was. -/
theorem record_granted_cases (u : State) (o : Outlet) :
    (∃ c ∈ admittedClaims u, c.outlet = o ∧ u.grantStage.record o =
      { u.record o with admission := .admitted, grant := (u.record o).minimum + amountFor (given u) o }) ∨
      (u.grantStage.record o = { u.record o with admission := .queued, grant := 0 }) ∨
      (u.isCharging o = false ∧ u.grantStage.record o = u.record o) := by
  have e : u.grantStage.record o = u.grantRecord (admittedClaims u) (given u) o := record_grantStage u o
  rw [e]
  unfold State.grantRecord
  split
  · split
    next admitted =>
      obtain ⟨c, hc, same⟩ := any_outlet_iff.1 admitted
      exact .inl ⟨c, hc, same, rfl⟩
    next => exact .inr (.inl rfl)
  next idle =>
    refine .inr (.inr ⟨?_, rfl⟩)
    rw [← isSome_chargingSession]
    exact Bool.eq_false_iff.2 idle

/-- What stage 4 leaves: a minimum within its ceiling, and no grant but to a charging session. -/
def CeilingsSet (u : State) : Prop :=
  (∀ o, (u.record o).minimum ≤ (u.record o).ceiling) ∧ ∀ o, u.isCharging o = false → (u.record o).grant = 0

theorem recordGranted_grantStage {u : State} (h : CeilingsSet u) (o : Outlet) : RecordGranted (u.grantStage.record o) := by
  obtain ⟨within, idle⟩ := h
  rcases record_granted_cases u o with ⟨c, hc, rfl, e⟩ | e | ⟨quiet, e⟩ <;> rw [e]
  · obtain ⟨_, _, _, _, _, minimum, ceiling⟩ := claim_of_mem ((admitClaims_sublist _ _ _).subset hc)
    have amount : amountFor (given u) c.outlet ≤ c.ceiling - c.minimum := amountFor_shares_le (nodup_admittedClaims u) hc _
    have le := within c.outlet
    refine ⟨le, ?_, fun ne => absurd rfl ne⟩
    show (u.record c.outlet).minimum + amountFor (given u) c.outlet ≤ (u.record c.outlet).ceiling
    omega
  · exact ⟨within o, Nat.zero_le _, fun _ => rfl⟩
  · exact ⟨within o, (idle o quiet).trans_le (Nat.zero_le _), fun _ => idle o quiet⟩

theorem amountFor_minimums {l : List Claim} (nodup : (l.map (·.outlet)).Nodup) {c : Claim} (hc : c ∈ l) :
    amountFor (l.map fun d => (d.outlet, d.minimum)) c.outlet = c.minimum := by
  cases h : (l.map fun d => (d.outlet, d.minimum)).find? fun p => p.1 == c.outlet with
  | none =>
    have := List.find?_eq_none.1 h (c.outlet, c.minimum) (List.mem_map.2 ⟨c, hc, rfl⟩)
    exact absurd (beq_self_eq_true _) this
  | some p =>
    obtain ⟨d, hd, rfl⟩ := List.mem_map.1 (List.mem_of_find?_eq_some h)
    have same : d.outlet = c.outlet := by simpa using List.find?_some h
    rw [amountFor, h, claim_eq_of_outlet nodup hd hc same]
    rfl

theorem sumOfGrants_grantStage {u : State} (h : CeilingsSet u) : u.grantStage.sumOfGrants ≤ u.dispatcher.available := by
  have bound (o : Outlet) : (u.grantStage.record o).grant ≤
      amountFor ((admittedClaims u).map fun d => (d.outlet, d.minimum)) o + amountFor (given u) o := by
    rcases record_granted_cases u o with ⟨c, hc, rfl, e⟩ | e | ⟨quiet, e⟩ <;> rw [e]
    · obtain ⟨_, _, _, _, _, minimum, _⟩ := claim_of_mem ((admitClaims_sublist _ _ _).subset hc)
      rw [amountFor_minimums (nodup_admittedClaims u) hc, minimum]
    · exact Nat.zero_le _
    · exact (h.2 o quiet).trans_le (Nat.zero_le _)
  have minimums : ((admittedClaims u).map (·.minimum)).sum ≤ u.dispatcher.available := by
    have := sum_admitClaims_le u.serviceOrder (Nat.zero_le u.dispatcher.available)
    rwa [Nat.zero_add] at this
  have shared := sum_shares_le (nodup_admittedClaims u) (u.dispatcher.available - ((admittedClaims u).map (·.minimum)).sum)
  have first := sum_amountFor_le allOutlets_nodup ((admittedClaims u).map fun d => (d.outlet, d.minimum))
  have second := sum_amountFor_le allOutlets_nodup (given u)
  rw [List.map_map] at first
  have first : (allOutlets.map fun o => amountFor ((admittedClaims u).map fun d => (d.outlet, d.minimum)) o).sum ≤
      ((admittedClaims u).map (·.minimum)).sum := first
  calc u.grantStage.sumOfGrants
      ≤ (allOutlets.map fun o => amountFor ((admittedClaims u).map fun d => (d.outlet, d.minimum)) o + amountFor (given u) o).sum :=
        List.sum_le_sum fun o _ => bound o
    _ ≤ u.dispatcher.available := by
        rw [List.sum_map_add]
        exact (Nat.add_le_add first (second.trans shared)).trans_eq (Nat.add_sub_cancel' minimums)

/-! ### The dispatch -/

theorem ceilingsSet_dispatch {s : State} (absent : AbsentAtRest s) : CeilingsSet (capped s).ceilingStage := by
  have vacant {o : Outlet} (h : s.present o = false) : (capped s).chargingSession o = none := by
    unfold State.chargingSession
    rw [slot_congr (sessions_capped s), vacant_of_ledger (ledger_fundsStage s) (absent o h).1]
  have idleRecord (o : Outlet) (idle : (capped s).chargingSession o = none) :
      ∃ d, (capped s).ceilingStage.record o = { DispatchRecord.starting with demand := d } := by
    rw [record_ceilingStage, State.ceilingRecord, idle]
    simp only
    split
    · exact ⟨_, rfl⟩
    next h =>
      have away : s.present o = false := by
        rw [present_congr (control_capped s)] at h
        exact Bool.eq_false_iff.2 h
      exact ⟨0, by rw [record_capped, (absent o away).2.1]; rfl⟩
  refine ⟨fun o => ?_, fun o quiet => ?_⟩
  · cases h : (capped s).chargingSession o with
    | none =>
      obtain ⟨d, e⟩ := idleRecord o h
      rw [e]
      exact Nat.le_refl 0
    | some ses =>
      rw [record_ceilingStage, State.ceilingRecord, h]
      exact Nat.min_le_right _ _
  · rw [isCharging_congr (sessions_ceilingStage (capped s)), ← isSome_chargingSession] at quiet
    have idle : (capped s).chargingSession o = none := by
      cases h : (capped s).chargingSession o with
      | none => rfl
      | some ses => rw [h] at quiet; cases quiet
    obtain ⟨d, e⟩ := idleRecord o idle
    rw [e]
    rfl

theorem sumOfGrants_congr {s t : State} (h : ∀ o, (t.record o).grant = (s.record o).grant) : t.sumOfGrants = s.sumOfGrants := by
  simp only [State.sumOfGrants, h]

theorem grantInv_dispatch {s : State} (absent : AbsentAtRest s) : GrantInv s.dispatch := by
  have set' := ceilingsSet_dispatch absent
  obtain ⟨available, effectiveCap, _⟩ := available_of_keepsGrants (keepsGrants_dispatch s)
  refine ⟨fun o => ?_, ?_, ?_⟩
  · obtain ⟨_, ceiling, minimum, grant, admission⟩ := fields_dispatch s o
    rw [RecordGranted, ceiling, minimum, grant, admission]
    exact recordGranted_grantStage set' o
  · rw [sumOfGrants_congr (grant_dispatch s), available]
    exact sumOfGrants_grantStage set'
  · obtain ⟨cap, power, _⟩ := cap_granted s
    rw [available, effectiveCap]
    show (capped s).ceilingStage.grantStage.dispatcher.available ≤ (capped s).ceilingStage.grantStage.dispatcher.effectiveCap
    rw [cap, power, availablePower]
    exact (Nat.sub_le _ _).trans (Nat.min_le_left _ _)

/-! ### Every step -/

theorem grantInv_of_share {s t : State} (h : share t = share s) (hs : GrantInv s) : GrantInv t := by
  obtain ⟨granted, sum, power⟩ := hs
  have record := record_of_share h
  obtain ⟨cap, available⟩ := caps_of_share h
  have grants : t.sumOfGrants = s.sumOfGrants := sumOfGrants_congr fun o => by rw [record o]
  exact ⟨fun o => by rw [record]; exact granted o, by rwa [grants, available], by rwa [cap, available]⟩

/-- R9, R15, R115: the starting records, with no power. -/
theorem grantInv_starting {s : State} (record : ∀ o, s.record o = .starting) (available : s.dispatcher.available = 0) : GrantInv s := by
  refine ⟨fun o => ?_, ?_, by rw [available]; exact Nat.zero_le _⟩
  · rw [record]
    exact ⟨Nat.le_refl 0, Nat.le_refl 0, fun _ => rfl⟩
  · have grants : s.sumOfGrants = (allOutlets.map fun _ => 0).sum := by
      unfold State.sumOfGrants
      simp only [record]
      rfl
    rw [grants]
    exact Nat.zero_le _

theorem absent_takes {s : State} (d : Nat) (h : AbsentAtRest s) : AbsentAtRest (s.rearm d).takes := by
  intro o away
  have away : s.present o = false := (present_congr (control_takes (s.rearm d)) o).symm.trans away
  obtain ⟨vacant, record, latest, held, link, miss⟩ := h o away
  obtain ⟨exchange, linked⟩ := takes_absent (s.rearm d) (o := o) away
  rw [OutletAtRest, exchange, linked, record_congr (dispatcher_takes _)]
  exact ⟨vacant_of_ledger (ledger_takes (s.rearm d)) vacant, record, latest, held, link, miss⟩

theorem grantInv_effect (c : Instr) {s : State} (mode : ModeInv s) (hs : GrantInv s) : GrantInv (effect c s) := by
  cases c with
  | startPark =>
    refine keeps_request (I := GrantInv) (c := .startPark) (fun _ _ h => h) rfl hs ?_
    rcases answerStartPark_cases s with e | ⟨_, _, e⟩ <;> rw [e]
    · exact hs
    · exact grantInv_starting (record_startUp s) rfl
  | stopPark =>
    refine keeps_request (I := GrantInv) (c := .stopPark) (fun _ _ h => h) rfl hs ?_
    rcases answerStopPark_cases s with e | ⟨_, _, _, e⟩ <;> rw [e]
    · exact hs
    · exact grantInv_starting (record_shutDown s) rfl
  | cycleExpiry quiet =>
    show GrantInv (s.cycleExpiry quiet)
    rcases cycleExpiry_cases s quiet with e | ⟨d, _, e⟩ <;> rw [e]
    · exact hs
    · exact grantInv_of_share (share_congr (dispatcher_handOver _ quiet)) (grantInv_dispatch (absent_takes d mode.2.2))
  | _ => exact grantInv_of_share (share_effect s rfl) hs

theorem grantInv_reset : GrantInv State.reset := grantInv_starting (by decide) rfl

/-- Settles O59: stage 5 admits minimums within A, stage 6 shares no more than what is left and no more than a room; an outlet without a
charging session has no grant. -/
theorem grantsKept : Obligations.GrantsKept := by
  intro s t mode hs h
  exact (step_keeps (fun s => ModeInv s ∧ GrantInv s) (fun _ _ h => h) ⟨modeInv_reset, grantInv_reset⟩ (fun _ _ h => h)
    (fun _ _ h => h) (fun _ h => h) (fun c s h => ⟨modeInv_effect c s h.1, grantInv_effect c h.1 h.2⟩) s t ⟨mode, hs⟩ h).2

end Sys2Proof.Proofs.GrantsKept

namespace Sys2Proof.Proofs.ResetKept

open Sys2Proof.Machine Sys2Proof.Safety
open Sys2Proof.Proofs.Rooms Sys2Proof.Proofs.RestKept Sys2Proof.Proofs.RolesKept Sys2Proof.Proofs.ServiceKept
open Sys2Proof.Proofs.GrantsKept Sys2Proof.Proofs.Money Sys2Proof.Proofs.ParkClock

/-- Settles O6: each property of reset, as its own obligation on every step starts from it. -/
theorem resetHasEveryProperty : Obligations.ResetHasEveryProperty :=
  ⟨modeInv_reset, exchangeInv_reset, poolKept_reset.1, poolKept_reset.2, releaseInv_reset, moneyInv_reset, numbersInv_reset,
    clockInv_reset, grantInv_reset, roomInv_reset, waits_reset⟩

end Sys2Proof.Proofs.ResetKept
end
